-- ==== Sys2Proof/Word.lean ====
section
/-!
DEFINITION. The plain value types of the block: bytes, command words, line levels, the pin
collaborators' opaque error values, and the answers of the three collaborators (00_scope.md R9, R10).
Nothing here computes; every conversion between levels and bits is in Machine/Operands.lean.
-/

namespace Sys2Proof

/-- A byte: 8 bits, bit 0 the least significant (R9). -/
abbrev Byte := BitVec 8

/-- A command word on the command port: 10 bits, `cmd_op` in 9:8 and `cmd_data` in 7:0 (R78). -/
abbrev CmdWord := BitVec 10

/-- A pin collaborator's own error value `e : E` (R8, R86), the number its `EW` bits spell.
The block never looks at it; the width `EW` is the State field `ew`. -/
abbrev ErrCode := Nat

/-- A line level; as a number LOW is 0 and HIGH is 1 (R9). -/
inductive Level where
  | low
  | high
deriving DecidableEq, Repr, Inhabited

/-- The answer of the output pin to one `PinSet` (R10, R67). -/
inductive PinSetAnswer where
  | ok
  | err (e : ErrCode)
deriving DecidableEq, Repr

/-- The answer of the input pin to one `PinGet` (R10, R67). -/
inductive PinGetAnswer where
  | ok (v : Level)
  | err (e : ErrCode)
deriving DecidableEq, Repr

/-- The answer of the timer to one `TimerPoll` (R10, R93). -/
inductive PollAnswer where
  | notYet
  | elapsed
deriving DecidableEq, Repr

end Sys2Proof
end

