-- ==== Sys2Proof/Config.lean ====
section
/-!
DEFINITION. What the caller or the collaborators fix and the block does not (00_scope.md R8), and the
free values. Every `opaque` constant has no body: nothing in Lean can evaluate it, so a theorem holds
whatever it is. The answers named free below are those of assumption 3 (DESIGN CHOICE).
-/

namespace Sys2Proof

/-- `NALIGN`, the number of no-operation cycles of the phase-align delay: 5, the reference timing
(R8, R91). `State.nalign` carries it, so that every statement holds for every value 0 to 7 that the
3-bit `dly_cnt` can count (DESIGN CHOICE, assumption 9; safe). -/
def Config.nalign : BitVec 3 := 5#3

/-- One less than the timer's configured period: OPEN, fixed by the caller (R8, R34, D21;
DESIGN CHOICE, assumption 5; safe). -/
opaque Config.periodPred : Nat

/-- `P`, the timer's configured period in `clk` cycles, `P >= 1` (R98). -/
def Config.period : Nat := Config.periodPred + 1

/-- `EW`, the width of the pin collaborators' error type: OPEN (R8, D20; DESIGN CHOICE,
assumption 13; safe). -/
opaque Config.errWidth : Nat

/-- `TX_LINE_INIT`, the level of the transmit line before the first WRITE: OPEN; the block does not
drive the line at construction (R8, R39, D29; DESIGN CHOICE, assumption 6; safe). -/
opaque Config.txLineInit : Level

/-- The timer's count at construction, before it is brought into the range of the period:
unspecified until the first `TimerReset()` (R39, U15; DESIGN CHOICE, assumption 6; safe). -/
opaque Config.timerCountInit : Nat

/-- The timer's pending indication at construction: unspecified until the first `TimerReset()`
(R39, U15; DESIGN CHOICE, assumption 6; safe). -/
opaque Config.timerFlagInit : Bool

/-- FREE VALUE: the level the transmit line takes when a `PinSet` answers `Err`, either level, drawn
freely (R32, D19, U2). The argument is `State.cycle`, so each failing operation has its own
(DESIGN CHOICE, assumption 2; safe). -/
opaque Config.lineAfterFailedSet : Nat → Level

/-- FREE VALUE: whether the output pin fails in a cycle for which State lists no inputs (R164). -/
opaque Config.freeTxpErr : Nat → Bool

/-- FREE VALUE: the output pin's error value in a cycle for which State lists no inputs (U1). -/
opaque Config.freeTxpEcode : Nat → ErrCode

/-- FREE VALUE: the level of the receive line in a cycle for which State lists no inputs (R33). -/
opaque Config.freeRxpLevel : Nat → Level

/-- FREE VALUE: whether the input pin fails in a cycle for which State lists no inputs (R164). -/
opaque Config.freeRxpErr : Nat → Bool

/-- FREE VALUE: the input pin's error value in a cycle for which State lists no inputs (U1). -/
opaque Config.freeRxpEcode : Nat → ErrCode

/-- FREE VALUE: the answer of a timer that does not follow the contract of R98, in a cycle for which
State lists no inputs (R164, U5). -/
opaque Config.freeTmrElapsed : Nat → Bool

end Sys2Proof
end

