-- ==== Sys2Proof/Syntax.lean ====
section
/-!
DEFINITION. The command words as syntax: one constructor of `Instr` per row of spec/opcode_table.json
(30_encoding.md R78, R79, R82), and the commands and results of the host interface (00_scope.md R11).
-/

namespace Sys2Proof

/-- One command word as the host presents it. Each constructor keeps the word's data field
`cmd_data`, so no bit of a word is lost; FLUSH and READ ignore theirs (R78). -/
inductive Instr where
  /-- `0b00_bbbbbbbb`: send the byte `b` as one frame (R110). -/
  | write (b : Byte)
  /-- `0b01_xxxxxxxx`: the no-op that always succeeds; the data field is ignored (R118). -/
  | flush (d : Byte)
  /-- `0b10_xxxxxxxx`: receive one byte; the data field is ignored (R130). -/
  | read (d : Byte)
  /-- `0b11_xxxxxxxx`: reserved, not a command; the host must not present it (R82). -/
  | reserved11 (d : Byte)
deriving DecidableEq, Repr

/-- A command of the host interface (R11): what an accepted command word asks for. -/
inductive Command where
  | write (b : Byte)
  | flush
  | read
deriving DecidableEq, Repr

/-- A result handed to the host, exactly one per command that ends (R11, R81). -/
inductive Result where
  | okUnit
  | okByte (r : Byte)
  | errBus (e : ErrCode)
  | errInvalidInterrupt
deriving DecidableEq, Repr

/-- One event of the trace a model may observe of a run (R12). -/
inductive Event where
  /-- `Cmd(c)`: a command accepted. -/
  | cmd (c : Command)
  /-- `TxSet(v, res)`: one `PinSet(v)` with its answer. -/
  | txSet (v : Level) (res : PinSetAnswer)
  /-- `RxGet(res)`: one `PinGet()` with its answer. -/
  | rxGet (res : PinGetAnswer)
  /-- `TReset`: one `TimerReset()`. -/
  | tReset
  /-- `Nop`: one no-operation cycle of the phase-align delay. -/
  | nop
  /-- `Poll(res)`: one `TimerPoll()` with its answer. -/
  | poll (res : PollAnswer)
  /-- `Rsp(r)`: one `Respond(r)`. -/
  | rsp (r : Result)
deriving DecidableEq, Repr

end Sys2Proof
end

