-- ==== Sys2Proof/Machine/State.lean ====
section
/-!
DEFINITION. The state of the block and of the agents around it (10_state.md R20), as plain data, and
the state right after reset (R39).
-/

namespace Sys2Proof.Machine

/-- The sequencer register's 16 values (R21): which micro-operation comes next. -/
inductive Seq where
  | idle
  | txStart
  | txTreset
  | txAlign
  | txWaitStart
  | txData
  | txWaitData
  | txStop
  | txWaitStop
  | rxCheck
  | rxTreset
  | rxAlign
  | rxWaitStart
  | rxData
  | rxWaitData
  | rxWaitStop
deriving DecidableEq, Repr

/-- The input ports of R38 other than the command port, as the world drives them in one `clk` cycle. -/
structure PortIn where
  /-- `rst_n`: synchronous reset, active low. -/
  rstN : Bool
  /-- `txp_err`: the output pin's answer in this cycle, true for `Err`. -/
  txpErr : Bool
  /-- `txp_ecode`: the output pin's error value; the port carries its low `EW` bits. -/
  txpEcode : ErrCode
  /-- `rxp_level`: the level of the receive line `rx_line` in this cycle (R33). -/
  rxpLevel : Level
  /-- `rxp_err`: the input pin's answer in this cycle, true for `Err`. -/
  rxpErr : Bool
  /-- `rxp_ecode`: the input pin's error value; the port carries its low `EW` bits. -/
  rxpEcode : ErrCode
  /-- `tmr_elapsed`: the answer of a timer that does not follow the contract of R98. -/
  tmrElapsed : Bool
deriving DecidableEq, Repr

/-- The output ports of R38 other than `cmd_ready`, as the block drives them in one `clk` cycle. -/
structure PortOut where
  rspValid : Bool
  rspStatus : BitVec 2
  rspData : Byte
  rspErr : ErrCode
  txpReq : Bool
  txpLevel : Bool
  rxpReq : Bool
  tmrReset : Bool
  tmrPoll : Bool
deriving DecidableEq, Repr

/-- Every output 0 (R38: every output not named by the current step is 0; R39). -/
def PortOut.quiet : PortOut :=
  { rspValid := false, rspStatus := 0#2, rspData := 0#8, rspErr := 0, txpReq := false,
    txpLevel := false, rxpReq := false, tmrReset := false, tmrPoll := false }

/-- Which timer answers the polls (R98, D11). -/
inductive TimerKind where
  /-- The reference timer of R98: `State.tFlag` decides. -/
  | contract
  /-- Any other timer, a stalled one among them (R94): the input port decides, cycle by cycle. -/
  | free
deriving DecidableEq, Repr

/-- The whole state. The block itself is the six registers `seq` to `dlyCnt` and nothing else (R20);
the other fields are the output ports of the cycle just taken, the collaborators, the parameters that
no step writes, the inputs, and the model's own observation. -/
structure State where
  /-- The sequencer register (R21). -/
  seq : Seq
  /-- `tx_sr`, the transmit shift register (R22). -/
  txSr : BitVec 8
  /-- `tx_cnt`, the data cells completed in a WRITE (R23). -/
  txCnt : BitVec 4
  /-- `rx_sr`, the receive shift register (R24). -/
  rxSr : BitVec 8
  /-- `rx_cnt`, the data bits sampled and waited out in a READ (R25). -/
  rxCnt : BitVec 4
  /-- `dly_cnt`, the no-operation cycles still to run (R26). -/
  dlyCnt : BitVec 3
  /-- The output ports in the cycle just taken (R38). -/
  out : PortOut
  /-- `tx_line`, the level of the transmit line, held by the output pin (R32). -/
  txLine : Level
  /-- `t_cnt`, the timer's cycles counted in the current period (R34, R98). -/
  tCnt : Nat
  /-- `t_flag`, a period boundary has passed and no poll has consumed it (R98). -/
  tFlag : Bool
  /-- `P`, the timer's configured period in `clk` cycles (R34, R98): no step writes it. -/
  period : Nat
  /-- Which timer is wired to the block (R98): no step writes it (DESIGN CHOICE, assumption 4; safe). -/
  timerKind : TimerKind
  /-- `NALIGN` (R8): no step writes it. -/
  nalign : BitVec 3
  /-- `EW`, the width of a pin error value (R8, R86): no step writes it (assumption 13). -/
  ew : Nat
  /-- The command port: `cmd_valid` with `cmd_op` and `cmd_data`, or nothing presented (R38, R78). -/
  cmdPort : Option CmdWord
  /-- The host's program: the words it presents after the one on the port, one after the other, and
  `none` for a cycle in which it presents nothing (R84; DESIGN CHOICE, assumption 7; unsafe). -/
  program : List (Option CmdWord)
  /-- The other input ports in the cycle about to be taken (R38). -/
  now : PortIn
  /-- The other input ports in the cycles after that one, the next first (assumption 3). -/
  later : List PortIn
  /-- The trace of the run, oldest event first (R12): observation only, no step reads it (DESIGN CHOICE,
  assumption 8; safe). -/
  trace : List Event
  /-- The `clk` cycles taken since `State.reset`: it only numbers the free values (DESIGN CHOICE,
  assumption 8; safe). -/
  cycle : Nat
deriving DecidableEq, Repr

/-- Why the machine stops. -/
inductive Fault where
  /-- Raised by a sequencer step in a state for which the step tables R97, R111 and R131 have no row:
  an `X_ALIGN` state with `dly_cnt = 0`, or an `ELAPSED` answer in `TX_WAIT_DATA` or `RX_WAIT_DATA`
  with a bit counter above 7. Safe (DESIGN CHOICE, assumption 10): R40 excludes
  these states, and no run from reset reaches one. -/
  | noTableRow (at_ : Seq)
deriving DecidableEq, Repr

/-- Why a step has no meaning. -/
inductive Refusal where
  /-- Raised by exec for an instruction that has no meaning yet; no arm raises it now. Safe. -/
  | notModelled (mnemonic : String)
  /-- Raised when the host presents a word of the reserved command code `0b11`: the spec gives it no
  meaning and refuses the run (R82, D7; assumption 14). Safe. -/
  | reservedCommand
deriving DecidableEq, Repr

/-- The inputs of a cycle for which State lists none: the host does not assert reset and every answer
of a collaborator is a free value (R164; DESIGN CHOICE, assumption 3; unsafe as to reset). -/
def PortIn.free (n : Nat) : PortIn :=
  { rstN := true
    txpErr := Config.freeTxpErr n
    txpEcode := Config.freeTxpEcode n
    rxpLevel := Config.freeRxpLevel n
    rxpErr := Config.freeRxpErr n
    rxpEcode := Config.freeRxpEcode n
    tmrElapsed := Config.freeTmrElapsed n }

/-- The state right after reset (R39, R180): the sequencer idle, the five data and count registers 0,
every output port 0, and nothing presented. The collaborators are as the caller left them: what the
spec leaves open there is opaque (DESIGN CHOICE, assumption 6). -/
def State.reset : State :=
  { seq := .idle
    txSr := 0#8
    txCnt := 0#4
    rxSr := 0#8
    rxCnt := 0#4
    dlyCnt := 0#3
    out := PortOut.quiet
    txLine := Config.txLineInit
    tCnt := Config.timerCountInit % Config.period
    tFlag := Config.timerFlagInit
    period := Config.period
    timerKind := .contract
    nalign := Config.nalign
    ew := Config.errWidth
    cmdPort := none
    program := []
    now := PortIn.free 0
    later := []
    trace := []
    cycle := 0 }

end Sys2Proof.Machine
end

