-- ==== Sys2Proof/Machine/Flags.lean ====
section
/-!
DEFINITION. The block has no status flags, no condition codes and no predicates (10_state.md R28).
The two status-like signals are functions of `seq`, not state, and stand here.
-/

namespace Sys2Proof.Machine

/-- `busy = (seq != IDLE)` (R28). -/
def State.busy (s : State) : Bool := decide (s.seq ≠ .idle)

/-- The output port `cmd_ready = not busy` (R28, R38). -/
def State.cmdReady (s : State) : Bool := !s.busy

end Sys2Proof.Machine
end

