-- ==== Sys2Proof/WellFormed.lean ====
section
/-!
DEFINITION. Which command words the host may present: every word but those of the reserved command
code `0b11` (30_encoding.md R79, R82). The data field has no ill-formed value: it is any byte for
WRITE and is ignored, any value, for FLUSH and READ (R78).
-/

namespace Sys2Proof

/-- A well-formed instruction is a command of R79; a word of the reserved code is none (R82). -/
def WellFormed : Instr → Bool
  | .write _ => true
  | .flush _ => true
  | .read _ => true
  | .reserved11 _ => false

end Sys2Proof
end

