-- ==== Sys2Proof/Decode.lean ====
section
/-!
DEFINITION. Decoding and encoding of command words (30_encoding.md R78, R79, R82, R85). The decoder is
total on the 10-bit words of the command port; a number that is no 10-bit word is rejected by name.
-/

namespace Sys2Proof

/-- Why a number is not decoded. -/
inductive DecodeError where
  /-- The number has a 1 above bit 9: it is no word of the 10-bit command port (R78, R85). -/
  | notACommandWord
deriving DecidableEq, Repr

/-- The field `cmd_op`, bits 9:8 of the command word (R78). -/
def cmdOp (w : CmdWord) : BitVec 2 := w.extractLsb' 8 2

/-- The field `cmd_data`, bits 7:0 of the command word (R78). -/
def cmdData (w : CmdWord) : Byte := w.extractLsb' 0 8

/-- The instruction of a command word: the command code chooses the row of R79 and the data field is
taken as it stands, never extended, scaled or shifted (R78). -/
def decode (w : CmdWord) : Instr :=
  if cmdOp w = 0b00#2 then .write (cmdData w)
  else if cmdOp w = 0b01#2 then .flush (cmdData w)
  else if cmdOp w = 0b10#2 then .read (cmdData w)
  else .reserved11 (cmdData w)

/-- The decoder on any number: only a 10-bit word is a command word (DESIGN CHOICE, assumption 11;
safe). -/
def decodeNat (w : Nat) : Except DecodeError Instr :=
  if w < 2 ^ 10 then .ok (decode (BitVec.ofNat 10 w)) else .error .notACommandWord

/-- The command code of an instruction (R79, R82). -/
def opcodeOf : Instr → BitVec 2
  | .write _ => 0b00#2
  | .flush _ => 0b01#2
  | .read _ => 0b10#2
  | .reserved11 _ => 0b11#2

/-- The data field of an instruction's word (R78). -/
def dataOf : Instr → Byte
  | .write b => b
  | .flush d => d
  | .read d => d
  | .reserved11 d => d

/-- The encoder: `cmd_op` in bits 9:8, `cmd_data` in bits 7:0 (R78, R79). The canonical FLUSH and
READ of R84 have a zero data field. -/
def encode (i : Instr) : CmdWord := opcodeOf i ++ dataOf i

/-- The decoder's answer for a table row's bits: bit 0 of `w` is bit 0 of the command word, and every
bit at or above `nbits` is 0. -/
def decodeTableWord (nbits w : Nat) : Option Instr :=
  match decodeNat (w % 2 ^ nbits) with
  | .ok i => some i
  | .error _ => none

end Sys2Proof
end

