-- ==== Sys2Proof/Machine/Operands.lean ====
section
/-!
DEFINITION. The operand forms: how a bit becomes a level and a level a bit, how the collaborators'
answers are read from the input ports, and how a result is spelled on the response port
(20_memory.md R67, 30_encoding.md R80, R81, R87, 41_transmit.md R116, 42_receive.md R136).
-/

namespace Sys2Proof.Machine

/-- The level that carries a bit: 1 is HIGH, 0 is LOW (R9). -/
def levelOfBit (b : Bool) : Level := if b then .high else .low

/-- The bit that a level stands for (R9). -/
def bitOfLevel : Level → Bool
  | .low => false
  | .high => true

/-- `tx_sr[0]`, the level of the data bit to drive (R22, R67). -/
def lowBitLevel (sr : Byte) : Level := levelOfBit (sr.getLsbD 0)

/-- `sr >> 1`, the logical shift by one: 0 enters bit 7 (R9, R116, R136). -/
def shiftOut (sr : Byte) : Byte := sr >>> 1

/-- The shift of a sample into `rx_sr`: shift right by one, then set bit 7 if the sample is HIGH
(R131, R136). -/
def shiftIn (v : Level) (sr : Byte) : Byte :=
  match v with
  | .high => shiftOut sr ||| 0x80#8
  | .low => shiftOut sr

/-- An error value as the port carries it: its low `EW` bits (R38, R86; assumption 13). -/
def portErr (ew : Nat) (e : ErrCode) : ErrCode := e % 2 ^ ew

/-- The output pin's answer to a `PinSet` in this cycle (R87). -/
def State.pinSetAnswer (s : State) : PinSetAnswer :=
  if s.now.txpErr then .err (portErr s.ew s.now.txpEcode) else .ok

/-- The input pin's answer to a `PinGet` in this cycle (R87). -/
def State.pinGetAnswer (s : State) : PinGetAnswer :=
  if s.now.rxpErr then .err (portErr s.ew s.now.rxpEcode) else .ok s.now.rxpLevel

/-- The timer's answer to a `TimerPoll` in this cycle (R87, R93): by the contract of R98 the pending
indication decides, as it was before this cycle's counting; of another timer the port decides. -/
def State.pollAnswer (s : State) : PollAnswer :=
  match s.timerKind with
  | .contract => if s.tFlag then .elapsed else .notYet
  | .free => if s.now.tmrElapsed then .elapsed else .notYet

/-- `rsp_status` of a result (R81). -/
def statusOf : Result → BitVec 2
  | .okUnit => 0b00#2
  | .okByte _ => 0b00#2
  | .errBus _ => 0b01#2
  | .errInvalidInterrupt => 0b10#2

/-- `rsp_data` of a result: the byte of `OK_BYTE`, `0x00` with every other (R80). -/
def rspDataOf : Result → Byte
  | .okByte r => r
  | .okUnit => 0x00#8
  | .errBus _ => 0x00#8
  | .errInvalidInterrupt => 0x00#8

/-- `rsp_err` of a result: the payload of `ERR_BUS`, all zero with every other (R80). -/
def rspErrOf : Result → ErrCode
  | .errBus e => e
  | .okUnit => 0
  | .okByte _ => 0
  | .errInvalidInterrupt => 0

/-- The response word of `10 + EW` bits, `rsp_status`, `rsp_data`, `rsp_err` from the top (R80). -/
def responseWord (ew : Nat) (status : BitVec 2) (data : Byte) (e : ErrCode) : BitVec (10 + ew) :=
  (status ++ data) ++ BitVec.ofNat ew e

/-- The word that spells a result (R80, R81). -/
def resultWord (ew : Nat) (r : Result) : BitVec (10 + ew) :=
  responseWord ew (statusOf r) (rspDataOf r) (rspErrOf r)

/-- The word on the response port in the cycle just taken (R80). -/
def State.rspWord (s : State) : BitVec (10 + s.ew) :=
  responseWord s.ew s.out.rspStatus s.out.rspData s.out.rspErr

end Sys2Proof.Machine
end

