-- ==== Sys2Proof/Machine/Ops.lean ====
section
/-!
DEFINITION. The shared operations: the five collaborator operations with their port activity and
their trace events (00_scope.md R10, 20_memory.md R67, 30_encoding.md R87), accepting a command,
answering it, TAKING AN EXCEPTION (`raise`, 60_exceptions.md R157), reset (70_reset_and_hazards.md
R180, R195), and what the other agents do at a clock edge (10_state.md R20, 40_timing_control.md R98).
-/

namespace Sys2Proof.Machine

/-- A cycle in which the block drives no output port (R38). -/
def quiet (s : State) : State := { s with out := PortOut.quiet }

/-- The level of the transmit line after a `PinSet(v)`: `v` if the pin answered `Ok`, a FREE VALUE if
it answered `Err` (R32, D19). -/
def lineAfterSet (v : Level) (s : State) : Level :=
  match s.pinSetAnswer with
  | .ok => v
  | .err _ => Config.lineAfterFailedSet s.cycle

/-- `PinSet(v)`: one operation on the output pin (R67, R87). Its answer is `State.pinSetAnswer`. -/
def pinSet (v : Level) (s : State) : State :=
  { s with
    out := { PortOut.quiet with txpReq := true, txpLevel := bitOfLevel v }
    txLine := lineAfterSet v s
    trace := s.trace ++ [.txSet v s.pinSetAnswer] }

/-- `PinGet()`: one operation on the input pin, without side effect on the line (R56, R67, R87).
Its answer is `State.pinGetAnswer`. -/
def pinGet (s : State) : State :=
  { s with
    out := { PortOut.quiet with rxpReq := true }
    trace := s.trace ++ [.rxGet s.pinGetAnswer] }

/-- `TimerReset()`: the count restarts at zero, a pending indication is cleared, the period is not
touched; it cannot fail (R90, R98). -/
def timerReset (s : State) : State :=
  { s with
    out := { PortOut.quiet with tmrReset := true }
    tCnt := 0
    tFlag := false
    trace := s.trace ++ [.tReset] }

/-- `TimerPoll()`: an `ELAPSED` answer consumes the pending indication, `NOT_YET` has no side effect
(R56, R98). Its answer is `State.pollAnswer`. -/
def timerPoll (s : State) : State :=
  { s with
    out := { PortOut.quiet with tmrPoll := true }
    tFlag := match s.pollAnswer with
      | .elapsed => false
      | .notYet => s.tFlag
    trace := s.trace ++ [.poll s.pollAnswer] }

/-- `Nop()`: one no-operation cycle inside the block; no port moves (R56, R91). -/
def nopCycle (s : State) : State :=
  { s with out := PortOut.quiet, trace := s.trace ++ [.nop] }

/-- `Respond(r)`: the result goes to the host, in the cycle of the operation before it (R80, R87). -/
def respond (r : Result) (s : State) : State :=
  { s with
    out := { s.out with
      rspValid := true
      rspStatus := statusOf r
      rspData := rspDataOf r
      rspErr := rspErrOf r }
    trace := s.trace ++ [.rsp r] }

/-- The end of a command: its one result, and the sequencer back to `IDLE` (R110, R118, R130). -/
def finish (r : Result) (s : State) : State := { respond r s with seq := .idle }

/-- TAKING AN EXCEPTION: `raise X` answers the command with the error, and the sequencer goes to
`IDLE`; nothing is saved, cleared, driven, reset or stopped (R157). There is no return from an error:
the next command is treated like any other (R159). -/
def raise (x : Result) (s : State) : State := finish x s

/-- The acceptance of a command: the host's word is taken from the command port; no collaborator
operation is performed (R38, D27). -/
def accept (c : Command) (s : State) : State :=
  { s with cmdPort := none, out := PortOut.quiet, trace := s.trace ++ [.cmd c] }

/-- Reset in a cycle with `rst_n = 0`: the registers of R39, every output 0, no `Respond` and no
collaborator operation; a running command is dropped (R180, R181, R195). The command port keeps its
word (DEDUCED, assumption 16). -/
def resetBlock (s : State) : State :=
  { s with
    seq := .idle
    txSr := 0#8
    txCnt := 0#4
    rxSr := 0#8
    rxCnt := 0#4
    dlyCnt := 0#3
    out := PortOut.quiet }

/-- The timer's own counting in one cycle (R98): a `TimerReset()` of the same cycle wins. -/
def timerCount (s : State) : State :=
  { s with
    tCnt := if s.out.tmrReset then s.tCnt else if s.tCnt = s.period - 1 then 0 else s.tCnt + 1
    tFlag := if s.out.tmrReset then s.tFlag else if s.tCnt = s.period - 1 then true else s.tFlag }

/-- The world moves the input ports on to the next cycle: the next listed inputs, or free values where
none are listed (R33, R164; DESIGN CHOICE, assumption 3). -/
def nextInputs (s : State) : State :=
  { s with now := s.later.headD (PortIn.free (s.cycle + 1)), later := s.later.tail }

/-- The host: it holds a presented command until it is accepted (R192), and presents the next line of
its program only when nothing is presented and the block is ready again (R84; DESIGN CHOICE,
assumption 7). A reset that drops a running command also makes the block ready, so the host goes on
with its next line at that clock edge, although no result was taken; the spec leaves this open (DESIGN
CHOICE, assumption 19; unsafe). -/
def hostNext (s : State) : State :=
  { s with
    cmdPort := if s.cmdPort.isNone && s.cmdReady then s.program.head?.join else s.cmdPort
    program := if s.cmdPort.isNone && s.cmdReady then s.program.tail else s.program }

/-- One more `clk` cycle has been taken. -/
def countCycle (s : State) : State := { s with cycle := s.cycle + 1 }

/-- The rising edge of `clk` after the block's own step: the timer counts (R98), the world drives the
next inputs, the host drives the command port (R20). -/
def clockEdge (s : State) : State := countCycle (nextInputs (hostNext (timerCount s)))

/-- A step of the block followed by the clock edge; a fault or a refusal stops the run. -/
def clocked : Host.Outcome State Fault Refusal → Host.Outcome State Fault Refusal
  | .next s => .next (clockEdge s)
  | .fault r => .fault r
  | .refused r => .refused r

/-- The host presents the word `w % 2 ^ nbits` in the next cycle to a block that is ready and not in
reset; a number that is no command word cannot be presented (R78, R38; DESIGN CHOICE,
assumptions 11 and 12). -/
def present (nbits w : Nat) (s : State) : State :=
  { s with
    seq := .idle
    cmdPort := if w % 2 ^ nbits < 2 ^ 10 then some (BitVec.ofNat 10 (w % 2 ^ nbits)) else none
    now := { s.now with rstN := true } }

end Sys2Proof.Machine
end

