-- ==== Sys2Proof/Machine/Timing.lean ====
section
/-!
DEFINITION. The timing-control family (40_timing_control.md R90 to R97): the steps that WRITE and READ
share, one definition per kind of state, the target states given as arguments.
-/

namespace Sys2Proof.Machine

/-- `X_TRESET` (R90, R97): `TimerReset()`, `dly_cnt <- NALIGN`, then `X_ALIGN`, or `X_WAIT_START` at
once if `NALIGN = 0`. -/
def tresetStep (align waitStart : Seq) (s : State) : Host.Outcome State Fault Refusal :=
  let s' := timerReset s
  if s.nalign = 0#3 then .next { s' with dlyCnt := 0#3, seq := waitStart }
  else .next { s' with dlyCnt := s.nalign, seq := align }

/-- `X_ALIGN` (R91, R97): one `Nop()`, one fewer to run; the last one leaves the state. The table has
no row for `dly_cnt = 0`. -/
def alignStep (align waitStart : Seq) (s : State) : Host.Outcome State Fault Refusal :=
  let s' := nopCycle s
  if s.dlyCnt = 0#3 then .fault (.noTableRow align)
  else if s.dlyCnt = 1#3 then .next { s' with dlyCnt := 0#3, seq := waitStart }
  else .next { s' with dlyCnt := s.dlyCnt - 1#3, seq := align }

/-- One `TimerPoll()` of a full-period wait (R92, R97): `NOT_YET` stays, without any other effect;
`ELAPSED` goes on as the wait's own row says. -/
def waitStep (onElapsed : State → Host.Outcome State Fault Refusal) (s : State) :
    Host.Outcome State Fault Refusal :=
  match s.pollAnswer with
  | .notYet => .next (timerPoll s)
  | .elapsed => onElapsed (timerPoll s)

/-- `X_WAIT_START` (R97): the wait that ends the start cell, then the data state. -/
def waitStartStep (afterStart : Seq) (s : State) : Host.Outcome State Fault Refusal :=
  waitStep (fun s' => .next { s' with seq := afterStart }) s

end Sys2Proof.Machine
end

