-- ==== Sys2Proof/Machine/ReceiveSteps.lean ====
section
/-!
DEFINITION. The steps of READ after its acceptance, one definition per sequencer state
(42_receive.md R131); the timing states are those of Machine/Timing.lean.
-/

namespace Sys2Proof.Machine

/-- `RX_CHECK`: the precondition check (R132, R133): a failed read raises `ERR_BUS(e)`, a HIGH line
raises `ERR_INVALID_INTERRUPT`, a LOW line is taken to be the start bit. -/
def rxCheckStep (s : State) : Host.Outcome State Fault Refusal :=
  match s.pinGetAnswer with
  | .err e => .next (raise (.errBus e) (pinGet s))
  | .ok .high => .next (raise .errInvalidInterrupt (pinGet s))
  | .ok .low => .next { pinGet s with seq := .rxTreset }

/-- `RX_DATA`: shift, then sample data bit `rx_cnt`; a failed sample raises `ERR_BUS(e)`, the shift
done and dead (R131, R139, D28). -/
def rxDataStep (s : State) : Host.Outcome State Fault Refusal :=
  match s.pinGetAnswer with
  | .err e => .next (raise (.errBus e) { pinGet s with rxSr := shiftOut s.rxSr })
  | .ok v => .next { pinGet s with rxSr := shiftIn v s.rxSr, seq := .rxWaitData }

/-- `RX_WAIT_DATA`: the wait after sample `rx_cnt`; the eighth goes to the wait that spans the stop
bit. The table has no row for a count above 7 (R131). -/
def rxWaitDataStep (s : State) : Host.Outcome State Fault Refusal :=
  waitStep (fun s' =>
    if s.rxCnt < 7#4 then .next { s' with rxCnt := s.rxCnt + 1#4, seq := .rxData }
    else if s.rxCnt = 7#4 then .next { s' with rxCnt := 8#4, seq := .rxWaitStop }
    else .fault (.noTableRow .rxWaitData)) s

/-- `RX_WAIT_STOP`: the wait that spans the stop bit, which is not looked at, then
`Respond(OK_BYTE(rx_sr))` (R131, R137). -/
def rxWaitStopStep (s : State) : Host.Outcome State Fault Refusal :=
  waitStep (fun s' => .next (finish (.okByte s.rxSr) s')) s

end Sys2Proof.Machine
end

