-- ==== Sys2Proof/Machine/TransmitSteps.lean ====
section
/-!
DEFINITION. The steps of WRITE after its acceptance, one definition per sequencer state
(41_transmit.md R111); the timing states are those of Machine/Timing.lean.
-/

namespace Sys2Proof.Machine

/-- A pin drive of WRITE: on `Ok` the step goes on, on `Err(e)` it raises `ERR_BUS(e)` at once and
writes no register (R111, R114, R151). -/
def driveStep (v : Level) (onOk : State → State) (s : State) : Host.Outcome State Fault Refusal :=
  match s.pinSetAnswer with
  | .ok => .next (onOk (pinSet v s))
  | .err e => .next (raise (.errBus e) (pinSet v s))

/-- `TX_START`: drive the start bit, LOW (R71, R111). -/
def txStartStep (s : State) : Host.Outcome State Fault Refusal :=
  driveStep .low (fun s' => { s' with seq := .txTreset }) s

/-- `TX_DATA`: drive data bit `tx_cnt`, then shift (R72, R111). -/
def txDataStep (s : State) : Host.Outcome State Fault Refusal :=
  driveStep (lowBitLevel s.txSr)
    (fun s' => { s' with txSr := shiftOut s.txSr, seq := .txWaitData }) s

/-- `TX_WAIT_DATA`: the wait that ends data cell `tx_cnt`; the eighth goes to the stop bit. The table
has no row for a count above 7 (R111). -/
def txWaitDataStep (s : State) : Host.Outcome State Fault Refusal :=
  waitStep (fun s' =>
    if s.txCnt < 7#4 then .next { s' with txCnt := s.txCnt + 1#4, seq := .txData }
    else if s.txCnt = 7#4 then .next { s' with txCnt := 8#4, seq := .txStop }
    else .fault (.noTableRow .txWaitData)) s

/-- `TX_STOP`: drive the stop bit, HIGH; a failed drive answers without the final wait (R73, R115). -/
def txStopStep (s : State) : Host.Outcome State Fault Refusal :=
  driveStep .high (fun s' => { s' with seq := .txWaitStop }) s

/-- `TX_WAIT_STOP`: the wait that ends the stop cell, then `Respond(OK_UNIT)` (R111). -/
def txWaitStopStep (s : State) : Host.Outcome State Fault Refusal :=
  waitStep (fun s' => .next (finish .okUnit s')) s

end Sys2Proof.Machine
end

