-- ==== Sys2Proof/Machine/Sequencer.lean ====
section
/-!
DEFINITION. The sequencer: one step of the command in progress (10_state.md R21, R40; the step tables
R97, R111 and R131). It does not look at the command port.
-/

namespace Sys2Proof.Machine

/-- One sequencer step that accepts nothing: in `IDLE` the block does nothing (R167), in every other
state it takes the step that R21 names. -/
def seqStep (s : State) : Host.Outcome State Fault Refusal :=
  match s.seq with
  | .idle => .next (quiet s)
  | .txStart => txStartStep s
  | .txTreset => tresetStep .txAlign .txWaitStart s
  | .txAlign => alignStep .txAlign .txWaitStart s
  | .txWaitStart => waitStartStep .txData s
  | .txData => txDataStep s
  | .txWaitData => txWaitDataStep s
  | .txStop => txStopStep s
  | .txWaitStop => txWaitStopStep s
  | .rxCheck => rxCheckStep s
  | .rxTreset => tresetStep .rxAlign .rxWaitStart s
  | .rxAlign => alignStep .rxAlign .rxWaitStart s
  | .rxWaitStart => waitStartStep .rxData s
  | .rxData => rxDataStep s
  | .rxWaitData => rxWaitDataStep s
  | .rxWaitStop => rxWaitStopStep s

/-- A command presented while another runs is neither accepted nor queued nor rejected: the running
command takes its step and the word stays on the port (R60, R192; DEDUCED, assumption 1). -/
def whenReady (onAccept : State → State) (s : State) : Host.Outcome State Fault Refusal :=
  if s.busy then seqStep s else .next (onAccept s)

end Sys2Proof.Machine
end

