-- ==== Sys2Proof/Machine/Receive.lean ====
section
/-!
DEFINITION. The receive family's command, READ (42_receive.md R130, R131): what one cycle does in which
the command is presented. The steps of a READ after its acceptance are in Machine/ReceiveSteps.lean.
-/

namespace Sys2Proof.Machine

/-- READ: accepted in `IDLE`, it clears `rx_sr` and `rx_cnt`; the check and the frame follow step by
step from `RX_CHECK`; its data field is ignored (R131). -/
def execRead (_d : Byte) (s : State) : Host.Outcome State Fault Refusal :=
  whenReady (fun s => { accept .read s with rxSr := 0#8, rxCnt := 0#4, seq := .rxCheck }) s

end Sys2Proof.Machine
end

