-- ==== Sys2Proof/Machine/Reserved.lean ====
section
/-!
DEFINITION. The reserved command code `0b11` (30_encoding.md R82, 92_eei_decisions.md D7).
-/

namespace Sys2Proof.Machine

/-- The reserved code is no command: a run in which it is presented is refused, whatever the block is
doing (R82; DEDUCED, assumption 14; safe). -/
def execReserved11 (_d : Byte) (_s : State) : Host.Outcome State Fault Refusal :=
  .refused .reservedCommand

end Sys2Proof.Machine
end

