-- ==== Sys2Proof/Machine/Transmit.lean ====
section
/-!
DEFINITION. The transmit family's commands, WRITE and FLUSH (41_transmit.md R110, R111, R118): what one
cycle does in which the command is presented. The steps of a WRITE after its acceptance are in
Machine/TransmitSteps.lean.
-/

namespace Sys2Proof.Machine

/-- WRITE `b`: accepted in `IDLE`, it loads `tx_sr` and clears `tx_cnt`; the frame follows step by step
from `TX_START` (R111). -/
def execWrite (b : Byte) (s : State) : Host.Outcome State Fault Refusal :=
  whenReady (fun s => { accept (.write b) s with txSr := b, txCnt := 0#4, seq := .txStart }) s

/-- FLUSH: accepted in `IDLE`, it answers `OK_UNIT` in the same step, writes no register and performs
no collaborator operation; its data field is ignored (R118, R63). -/
def execFlush (_d : Byte) (s : State) : Host.Outcome State Fault Refusal :=
  whenReady (fun s => finish .okUnit (accept .flush s)) s

end Sys2Proof.Machine
end

