-- ==== Sys2Proof/Machine/Dispatch.lean ====
section
/-!
DEFINITION. exec: what one cycle of the block does in which the host presents an instruction.
-/

namespace Sys2Proof.Machine

def exec (i : Instr) (s : State) : Host.Outcome State Fault Refusal :=
  match i with
  | .write b => Sys2Proof.Machine.execWrite b s
  | .flush d => Sys2Proof.Machine.execFlush d s
  | .read d => Sys2Proof.Machine.execRead d s
  | .reserved11 d => Sys2Proof.Machine.execReserved11 d s

end Sys2Proof.Machine
end

