-- ==== Sys2Proof/Machine/Step.lean ====
section
/-!
DEFINITION. step: one `clk` cycle of the block and of the agents around it (10_state.md R20, R38).
-/

namespace Sys2Proof.Machine

/-- One `clk` cycle. Reset wins over everything (R156, R195); else the word presented on the command
port is decoded and executed; with nothing presented the sequencer takes its own step. The clock edge
of Machine/Ops.lean follows (DEDUCED, assumptions 1 and 16). -/
def step (s : State) : Host.Outcome State Fault Refusal :=
  if s.now.rstN then
    match s.cmdPort with
    | some w => clocked (exec (decode w) s)
    | none => clocked (seqStep s)
  else clocked (.next (resetBlock s))

/-- `s` with the instruction of the word `w` presented on the command port of a ready block, so that
the very next step accepts it. -/
def State.withFetchWord (s : State) (nbits w : Nat) : State := present nbits w s

end Sys2Proof.Machine
end

