-- ==== Sys2Proof/Safety.lean ====
section
/-!
DEFINITION. What the claims speak of: runs, the invariant of 10_state.md R40, the conditions under
which a command is presented and the inputs are calm, and the traces that 41_transmit.md R112, R114
and 42_receive.md R138, R139 write out.
-/

namespace Sys2Proof

/-! ### Kinds of events -/

/-- `Cmd` events. -/
def Event.isCmd : Event → Bool
  | .cmd _ => true
  | .txSet _ _ | .rxGet _ | .tReset | .nop | .poll _ | .rsp _ => false

/-- `Rsp` events. -/
def Event.isRsp : Event → Bool
  | .rsp _ => true
  | .cmd _ | .txSet _ _ | .rxGet _ | .tReset | .nop | .poll _ => false

/-- Pin operations: `TxSet` and `RxGet` (R12). -/
def Event.isPin : Event → Bool
  | .txSet _ _ | .rxGet _ => true
  | .cmd _ | .tReset | .nop | .poll _ | .rsp _ => false

/-- Pin operations whose answer is `Err`. -/
def Event.isPinFailure : Event → Bool
  | .txSet _ (.err _) | .rxGet (.err _) => true
  | .txSet _ .ok | .rxGet (.ok _) | .cmd _ | .tReset | .nop | .poll _ | .rsp _ => false

end Sys2Proof

namespace Sys2Proof.Machine

/-- `n` cycles, stopping at the first fault or refusal. -/
def run : Nat → State → Host.Outcome State Fault Refusal
  | 0, s => .next s
  | n + 1, s =>
    match step s with
    | .next t => run n t
    | .fault f => .fault f
    | .refused r => .refused r

/-! ### The invariant -/

/-- R40 (b) to (f), state by state, with what makes it inductive: the counter is 0 before the first
data bit and 8 after the last. In `TX_DATA` with `tx_cnt = k` the top `k` bits of `tx_sr` are zero
(it is `b >> k`); in `RX_DATA` with `rx_cnt = k` the bits `rx_sr[7-k:0]` are zero. -/
def seqInv (s : State) : Bool :=
  match s.seq with
  | .idle => true
  | .txStart => s.txCnt == 0#4
  | .txTreset => s.txCnt == 0#4
  | .txAlign => s.txCnt == 0#4 && decide (1#3 ≤ s.dlyCnt) && decide (s.dlyCnt ≤ s.nalign)
  | .txWaitStart => s.txCnt == 0#4
  | .txData => decide (s.txCnt ≤ 7#4) && s.txSr >>> (8 - s.txCnt.toNat) == 0#8
  | .txWaitData => decide (s.txCnt ≤ 7#4) && s.txSr >>> (7 - s.txCnt.toNat) == 0#8
  | .txStop => s.txCnt == 8#4 && s.txSr == 0#8
  | .txWaitStop => s.txCnt == 8#4 && s.txSr == 0#8
  | .rxCheck => s.rxCnt == 0#4 && s.rxSr == 0#8
  | .rxTreset => s.rxCnt == 0#4 && s.rxSr == 0#8
  | .rxAlign => s.rxCnt == 0#4 && s.rxSr == 0#8 && decide (1#3 ≤ s.dlyCnt) && decide (s.dlyCnt ≤ s.nalign)
  | .rxWaitStart => s.rxCnt == 0#4 && s.rxSr == 0#8
  | .rxData => decide (s.rxCnt ≤ 7#4) && s.rxSr <<< s.rxCnt.toNat == 0#8
  | .rxWaitData => decide (s.rxCnt ≤ 7#4) && s.rxSr <<< (s.rxCnt.toNat + 1) == 0#8
  | .rxWaitStop => s.rxCnt == 8#4

/-- The output ports spell at most one collaborator operation and at most one result, and what is not
named is 0 (R38, R80, R81). -/
def outInv (s : State) : Bool :=
  s.out.rspStatus != 3#2 &&
  (s.out.rspValid || (s.out.rspStatus == 0#2 && s.out.rspData == 0#8 && s.out.rspErr == 0)) &&
  (s.out.rspStatus == 0#2 || s.out.rspData == 0#8) &&
  (s.out.rspStatus == 1#2 || s.out.rspErr == 0) &&
  decide (s.out.rspErr < 2 ^ s.ew) &&
  (s.out.txpReq || !s.out.txpLevel) &&
  decide (s.out.txpReq.toNat + s.out.rxpReq.toNat + s.out.tmrReset.toNat + s.out.tmrPoll.toNat ≤ 1)

/-- The invariant: R40, the output ports, and a timer whose count is below its period (R98). -/
def Inv (s : State) : Prop :=
  seqInv s = true ∧ outInv s = true ∧ s.tCnt < s.period

/-! ### Conditions on a state -/

/-- The next cycle presents the instruction `i` to a block that is ready and not in reset (R38). -/
def Presents (s : State) (i : Instr) : Prop :=
  s.seq = .idle ∧ s.now.rstN = true ∧ s.cmdPort = some (encode i)

/-- In the next `n` cycles there is no reset and no pin operation would fail. -/
def Calm (n : Nat) (s : State) : Prop :=
  n ≤ s.later.length + 1 ∧
    ∀ p ∈ (s.now :: s.later).take n, p.rstN = true ∧ p.txpErr = false ∧ p.rxpErr = false

/-- In the next `n` cycles there is no reset and a timer that is not the reference timer answers
`NOT_YET` (R94). -/
def Stalled (n : Nat) (s : State) : Prop :=
  s.timerKind = .free ∧ n ≤ s.later.length + 1 ∧
    ∀ p ∈ (s.now :: s.later).take n, p.rstN = true ∧ p.tmrElapsed = false

/-- The states of `seq` in which a full-period wait polls (R97). -/
def Seq.isWait : Seq → Bool
  | .txWaitStart | .txWaitData | .txWaitStop | .rxWaitStart | .rxWaitData | .rxWaitStop => true
  | .idle | .txStart | .txTreset | .txAlign | .txData | .txStop => false
  | .rxCheck | .rxTreset | .rxAlign | .rxData => false

/-- The timing states of `seq`: `TimerReset()`, `Nop()` and every `TimerPoll()` (R97, R153). -/
def Seq.isTiming (q : Seq) : Bool :=
  q.isWait || q == .txTreset || q == .txAlign || q == .rxTreset || q == .rxAlign

/-- The `TX_*` states (R21). -/
def Seq.isTx : Seq → Bool
  | .txStart | .txTreset | .txAlign | .txWaitStart | .txData | .txWaitData | .txStop
  | .txWaitStop => true
  | .idle | .rxCheck | .rxTreset | .rxAlign | .rxWaitStart | .rxData | .rxWaitData
  | .rxWaitStop => false

/-- The `RX_*` states (R21). -/
def Seq.isRx : Seq → Bool
  | .rxCheck | .rxTreset | .rxAlign | .rxWaitStart | .rxData | .rxWaitData | .rxWaitStop => true
  | .idle | .txStart | .txTreset | .txAlign | .txWaitStart | .txData | .txWaitData | .txStop
  | .txWaitStop => false

/-! ### Traces -/

/-- One full-period wait that sees `n` answers `NOT_YET`: `Poll(NOT_YET)* Poll(ELAPSED)` (R12, R92). -/
def waitEvents (n : Nat) : List Event :=
  List.replicate n (.poll .notYet) ++ [.poll .elapsed]

/-- `mid` holds no event of another command: neither a `Cmd` nor a `Rsp`. -/
def inner (mid : List Event) : Bool :=
  mid.all (fun e => !e.isCmd && !e.isRsp)

/-- The events a step or a run added to the trace. -/
def newEvents (s t : State) : List Event := t.trace.drop s.trace.length

/-- Some run from `s` adds to the trace exactly the events of one answered command: `Cmd(c)`, then
`mid`, then `Rsp(r)`. -/
def Answered (s : State) (c : Command) (mid : List Event) (r : Result) : Prop :=
  ∃ n t, run n s = .next t ∧ t.trace = s.trace ++ (.cmd c :: mid ++ [.rsp r]) ∧ inner mid = true

/-- The level of cell `k` of the frame of `b`, `cells(b)[k]` of R72. -/
def cell (b : Byte) (k : Nat) : Level :=
  if k = 0 then .low else if k ≤ 8 then levelOfBit (b.getLsbD (k - 1)) else .high

/-- What stands between the pin operation of cell `k` and its wait: in cell 0, and only there, the
`TimerReset()` and the `NALIGN` no-operation cycles (R95, R96). -/
def cellClock (nalign : BitVec 3) (k : Nat) : List Event :=
  if k = 0 then .tReset :: List.replicate nalign.toNat .nop else []

/-- The first `k` cells of a WRITE of `b`, each with its wait (R112); `w j` is how often the wait of
cell `j` sees `NOT_YET`, which the spec leaves open (R99). -/
def txCells (nalign : BitVec 3) (b : Byte) (w : Nat → Nat) (k : Nat) : List Event :=
  (List.range k).flatMap fun j =>
    .txSet (cell b j) .ok :: cellClock nalign j ++ waitEvents (w j)

/-- The first `k` pin reads of a READ that sees the frame of `r`, each with its wait (R138). -/
def rxCells (nalign : BitVec 3) (r : Byte) (w : Nat → Nat) (k : Nat) : List Event :=
  (List.range k).flatMap fun j =>
    .rxGet (.ok (cell r j)) :: cellClock nalign j ++ waitEvents (w j)

/-- The levels a command drove, in order. -/
def levelsDriven (evs : List Event) : List Level :=
  evs.filterMap fun e => match e with
    | .txSet v .ok => some v
    | .txSet _ (.err _) | .rxGet _ | .cmd _ | .tReset | .nop | .poll _ | .rsp _ => none

/-- The levels a command read, in order. -/
def levelsRead (evs : List Event) : List Level :=
  evs.filterMap fun e => match e with
    | .rxGet (.ok v) => some v
    | .rxGet (.err _) | .txSet _ _ | .cmd _ | .tReset | .nop | .poll _ | .rsp _ => none

/-- The pacing of R96, walked along the events of one command: `waits` is `none` before the first pin
operation and then counts the `Poll(ELAPSED)` since the last one, and each later pin operation finds
exactly one. -/
def pacedFrom : Option Nat → List Event → Bool
  | _, [] => true
  | waits, e :: evs =>
    if e.isPin then (waits == none || waits == some 1) && pacedFrom (some 0) evs
    else if e = .poll .elapsed then pacedFrom (waits.map (· + 1)) evs
    else pacedFrom waits evs

/-- Exactly one full-period wait stands between any two consecutive pin operations (R96). -/
def paced (evs : List Event) : Bool := pacedFrom none evs

end Sys2Proof.Machine
end

