-- ==== Sys2Proof/Certificates/Slice0/Obligations.lean ====
section
/-!
DEFINITION. The statements for the provers, one `def Obligations.<Name> : Prop` each; what each says, its
tier and the rules it rests on are in OBLIGATIONS.json.
-/

open Sys2Proof Sys2Proof.Machine

/-! ### Command words -/

/-- 95_test_vectors.md V1 to V9: the words written out there decode to what stands beside them. -/
def Obligations.CommandWordVectorsDecode : Prop :=
  decode 0x0B2#10 = .write 0xB2 ∧ decode 0x000#10 = .write 0x00 ∧ decode 0x0FF#10 = .write 0xFF ∧
  decode 0x100#10 = .flush 0x00 ∧ decode 0x1A5#10 = .flush 0xA5 ∧
  decode 0x200#10 = .read 0x00 ∧ decode 0x2FF#10 = .read 0xFF ∧
  decode 0x300#10 = .reserved11 0x00 ∧ decode 0x3FF#10 = .reserved11 0xFF

/-- R78, R79, R82: the masked word chooses the row, and the low byte is the data field as it stands. -/
def Obligations.MatchAndMaskChooseTheRow : Prop :=
  ∀ w : CmdWord,
    (w &&& 0x300#10 = 0x000#10 ↔ ∃ b, decode w = .write b) ∧
    (w &&& 0x300#10 = 0x100#10 ↔ ∃ d, decode w = .flush d) ∧
    (w &&& 0x300#10 = 0x200#10 ↔ ∃ d, decode w = .read d) ∧
    (w &&& 0x300#10 = 0x300#10 ↔ ∃ d, decode w = .reserved11 d) ∧
    dataOf (decode w) = (w &&& 0x0FF#10).setWidth 8

/-- Decode and encode agree on every instruction and every number: a number decodes to `i` exactly
when it is the word of `i`. -/
def Obligations.DecodeAndEncodeAgree : Prop :=
  ∀ (w : Nat) (i : Instr), decodeNat w = .ok i ↔ w = (encode i).toNat

/-- A number that is no 10-bit word is rejected by name, and only such a number is (the model's choice,
assumption 11). -/
def Obligations.OnlyTenBitWordsAreCommands : Prop :=
  ∀ w : Nat, (decodeNat w = .error .notACommandWord ↔ 2 ^ 10 ≤ w) ∧
    ∀ nbits, (decodeTableWord nbits w = none ↔ 2 ^ 10 ≤ w % 2 ^ nbits)

/-- R80, R81: what each result puts in the three fields of the response word, and where the fields
stand, for an error value of the port's width. -/
def Obligations.ResponseWordFields : Prop :=
  ∀ (ew : Nat) (r : Result), rspErrOf r < 2 ^ ew →
    (resultWord ew r).extractLsb' (ew + 8) 2 = statusOf r ∧
    (resultWord ew r).extractLsb' ew 8 = rspDataOf r ∧
    ((resultWord ew r).extractLsb' 0 ew).toNat = rspErrOf r ∧
    statusOf r ≠ 0b11#2 ∧
    (r = .okUnit → statusOf r = 0b00#2 ∧ rspDataOf r = 0x00#8 ∧ rspErrOf r = 0) ∧
    (∀ b, r = .okByte b → statusOf r = 0b00#2 ∧ rspDataOf r = b ∧ rspErrOf r = 0) ∧
    (∀ e, r = .errBus e → statusOf r = 0b01#2 ∧ rspDataOf r = 0x00#8 ∧ rspErrOf r = e) ∧
    (r = .errInvalidInterrupt → statusOf r = 0b10#2 ∧ rspDataOf r = 0x00#8 ∧ rspErrOf r = 0)

/-! ### The step -/

/-- A step runs the instruction of the word on the command port, followed by the clock edge. -/
def Obligations.StepRunsThePresentedInstruction : Prop :=
  ∀ (s : State) (w : CmdWord) (i : Instr),
    s.now.rstN = true → s.cmdPort = some w → decode w = i →
    (∀ u, exec i s = .next u → step s = .next (clockEdge u)) ∧
    (∀ f, exec i s = .fault f → step s = .fault f) ∧
    (∀ r, exec i s = .refused r → step s = .refused r)

/-- With nothing presented the sequencer takes its own step, and in `IDLE` it does nothing (R167). -/
def Obligations.StepWithNothingPresented : Prop :=
  ∀ s : State, s.now.rstN = true → s.cmdPort = none →
    (∀ u, seqStep s = .next u → step s = .next (clockEdge u)) ∧
    (∀ f, seqStep s = .fault f → step s = .fault f) ∧
    (s.seq = .idle → step s = .next (clockEdge { s with out := PortOut.quiet }))

/-- What the other agents do at a clock edge: nothing to the block, the line, the trace or the
parameters; the inputs move on, and the host presents its next line only to an idle block whose port
is empty (R20, R84, R192; the model's host, assumptions 7 and 19). -/
def Obligations.ClockEdgeMovesTheOtherAgents : Prop :=
  ∀ u : State,
    ((clockEdge u).seq = u.seq ∧ (clockEdge u).txSr = u.txSr ∧ (clockEdge u).txCnt = u.txCnt ∧
      (clockEdge u).rxSr = u.rxSr ∧ (clockEdge u).rxCnt = u.rxCnt ∧
      (clockEdge u).dlyCnt = u.dlyCnt ∧ (clockEdge u).out = u.out ∧
      (clockEdge u).txLine = u.txLine ∧ (clockEdge u).trace = u.trace ∧
      (clockEdge u).period = u.period ∧ (clockEdge u).timerKind = u.timerKind ∧
      (clockEdge u).nalign = u.nalign ∧ (clockEdge u).ew = u.ew) ∧
    (u.later = [] →
      (clockEdge u).now = PortIn.free (u.cycle + 1) ∧ (clockEdge u).later = []) ∧
    (∀ p ps, u.later = p :: ps → (clockEdge u).now = p ∧ (clockEdge u).later = ps) ∧
    (∀ w ws, u.cmdPort = none → u.seq = .idle → u.program = w :: ws →
      (clockEdge u).cmdPort = w ∧ (clockEdge u).program = ws) ∧
    (u.cmdPort ≠ none ∨ u.seq ≠ .idle ∨ u.program = [] →
      (clockEdge u).cmdPort = u.cmdPort ∧ (clockEdge u).program = u.program) ∧
    (clockEdge u).cycle = u.cycle + 1

/-- R195, with the registers of R39: a cycle in reset drops a running command without any answer, drives
no pin and leaves the timer counting. That every output is 0 in that same cycle and that the command
port keeps its word is the model's reading (assumption 16, DEDUCED). -/
def Obligations.ResetAbortsTheCommand : Prop :=
  ∀ s : State, s.now.rstN = false →
    ∃ t, step s = .next t ∧ t.seq = .idle ∧
      t.txSr = 0#8 ∧ t.txCnt = 0#4 ∧ t.rxSr = 0#8 ∧ t.rxCnt = 0#4 ∧ t.dlyCnt = 0#3 ∧
      t.out = PortOut.quiet ∧ t.trace = s.trace ∧ t.txLine = s.txLine ∧
      (s.cmdPort ≠ none → t.cmdPort = s.cmdPort) ∧
      (s.tCnt = s.period - 1 → t.tCnt = 0 ∧ t.tFlag = true) ∧
      (s.tCnt ≠ s.period - 1 → t.tCnt = s.tCnt + 1 ∧ t.tFlag = s.tFlag)

/-- R39: the state right after reset. -/
def Obligations.ResetValues : Prop :=
  State.reset.seq = .idle ∧ State.reset.cmdReady = true ∧
  State.reset.txSr = 0x00#8 ∧ State.reset.txCnt = 0#4 ∧
  State.reset.rxSr = 0x00#8 ∧ State.reset.rxCnt = 0#4 ∧ State.reset.dlyCnt = 0#3 ∧
  State.reset.out = PortOut.quiet ∧ State.reset.txLine = Config.txLineInit ∧
  State.reset.trace = []

/-! ### The commands, in the cycle that presents them -/

/-- R110, R111, D27: an idle block accepts a WRITE. -/
def Obligations.WriteIsAccepted : Prop :=
  ∀ (b : Byte) (s : State), s.seq = .idle →
    exec (.write b) s = .next { s with
      txSr := b
      txCnt := 0#4
      seq := .txStart
      cmdPort := none
      out := PortOut.quiet
      trace := s.trace ++ [.cmd (.write b)] }

/-- R118: an idle block accepts a FLUSH and answers it in the same step, whatever its data field, with
nothing else done; `01` in bits 9:8 is a FLUSH. -/
def Obligations.FlushAnswersAtOnce : Prop :=
  (∀ w : CmdWord, w.extractLsb' 8 2 = 0b01#2 → ∃ d, decode w = .flush d) ∧
  ∀ (d : Byte) (s : State), s.seq = .idle →
    exec (.flush d) s = .next { s with
      cmdPort := none
      out := { PortOut.quiet with rspValid := true }
      trace := s.trace ++ [.cmd .flush, .rsp .okUnit] }

/-- R130, R131, D27: an idle block accepts a READ, whatever its data field. -/
def Obligations.ReadIsAccepted : Prop :=
  ∀ (d : Byte) (s : State), s.seq = .idle →
    exec (.read d) s = .next { s with
      rxSr := 0x00#8
      rxCnt := 0#4
      seq := .rxCheck
      cmdPort := none
      out := PortOut.quiet
      trace := s.trace ++ [.cmd .read] }

/-- R82: a word of the reserved code is refused when it is presented out of reset. That a busy block
refuses it in the presenting cycle, and that a cycle in reset does not, is the model's reading
(assumption 14, DEDUCED). -/
def Obligations.ReservedCodeIsRefused : Prop :=
  (∀ (d : Byte) (s : State), exec (.reserved11 d) s = .refused .reservedCommand) ∧
  ∀ (s : State) (w : CmdWord), s.now.rstN = true → s.cmdPort = some w →
    w.extractLsb' 8 2 = 0b11#2 → step s = .refused .reservedCommand

/-- `exec` refuses the reserved code, and nothing else (R79, R82). That a busy block too refuses it, in the
presenting cycle, is the model's reading (assumption 14, DEDUCED). -/
def Obligations.OnlyIllFormedWordsAreRefused : Prop :=
  ∀ (i : Instr) (s : State) (r : Refusal),
    exec i s = .refused r ↔ WellFormed i = false ∧ r = .reservedCommand

/-- R192, R60: a command presented to a busy block is not accepted; the running command takes its
step, and the word stays on the port. -/
def Obligations.CommandWaitsWhileBusy : Prop :=
  ∀ (s : State) (w : CmdWord), s.now.rstN = true → s.seq ≠ .idle → s.cmdPort = some w →
    WellFormed (decode w) = true →
    s.cmdReady = false ∧ exec (decode w) s = seqStep s ∧
    ∀ t, step s = .next t →
      t.cmdPort = some w ∧ (newEvents s t).all (fun e => !e.isCmd) = true

/-- A command is accepted only by an idle block, only from the port, and the word is then taken: the
port is empty after a WRITE or a READ, and after a FLUSH, which leaves the block ready, it holds what
the host presents next (R60, R38; the model's host, assumption 7). That a cycle in reset accepts
nothing is assumption 16 (DEDUCED). -/
def Obligations.AcceptanceTakesThePresentedWord : Prop :=
  ∀ (s t : State) (c : Command), step s = .next t → .cmd c ∈ newEvents s t →
    s.now.rstN = true ∧ s.seq = .idle ∧
    ((∃ b, c = .write b ∧ s.cmdPort = some (encode (.write b)) ∧ t.seq = .txStart ∧
        t.cmdPort = none ∧ t.program = s.program) ∨
     (∃ d, c = .flush ∧ s.cmdPort = some (encode (.flush d)) ∧ t.seq = .idle ∧
        (s.program = [] → t.cmdPort = none ∧ t.program = []) ∧
        (∀ w ws, s.program = w :: ws → t.cmdPort = w ∧ t.program = ws)) ∨
     (∃ d, c = .read ∧ s.cmdPort = some (encode (.read d)) ∧ t.seq = .rxCheck ∧
        t.cmdPort = none ∧ t.program = s.program))

/-! ### The step tables -/

/-- R97: the six timing states, alike in both halves; the shape of every wait; and no timing step
raises an error. -/
def Obligations.TimingStepTable : Prop :=
  ∀ (s : State),
    (s.seq = .txTreset → 0#3 < s.nalign →
      seqStep s = .next { timerReset s with dlyCnt := s.nalign, seq := .txAlign }) ∧
    (s.seq = .txTreset → s.nalign = 0#3 →
      seqStep s = .next { timerReset s with dlyCnt := 0#3, seq := .txWaitStart }) ∧
    (s.seq = .txAlign → 1#3 < s.dlyCnt →
      seqStep s = .next { nopCycle s with dlyCnt := s.dlyCnt - 1#3, seq := .txAlign }) ∧
    (s.seq = .txAlign → s.dlyCnt = 1#3 →
      seqStep s = .next { nopCycle s with dlyCnt := 0#3, seq := .txWaitStart }) ∧
    (s.seq = .txWaitStart → s.pollAnswer = .notYet →
      seqStep s = .next { timerPoll s with seq := .txWaitStart }) ∧
    (s.seq = .txWaitStart → s.pollAnswer = .elapsed →
      seqStep s = .next { timerPoll s with seq := .txData }) ∧
    (s.seq = .rxTreset → 0#3 < s.nalign →
      seqStep s = .next { timerReset s with dlyCnt := s.nalign, seq := .rxAlign }) ∧
    (s.seq = .rxTreset → s.nalign = 0#3 →
      seqStep s = .next { timerReset s with dlyCnt := 0#3, seq := .rxWaitStart }) ∧
    (s.seq = .rxAlign → 1#3 < s.dlyCnt →
      seqStep s = .next { nopCycle s with dlyCnt := s.dlyCnt - 1#3, seq := .rxAlign }) ∧
    (s.seq = .rxAlign → s.dlyCnt = 1#3 →
      seqStep s = .next { nopCycle s with dlyCnt := 0#3, seq := .rxWaitStart }) ∧
    (s.seq = .rxWaitStart → s.pollAnswer = .notYet →
      seqStep s = .next { timerPoll s with seq := .rxWaitStart }) ∧
    (s.seq = .rxWaitStart → s.pollAnswer = .elapsed →
      seqStep s = .next { timerPoll s with seq := .rxData }) ∧
    (s.seq.isWait = true → s.pollAnswer = .notYet → seqStep s = .next (timerPoll s)) ∧
    (∀ t, s.seq.isWait = true → s.pollAnswer = .elapsed → seqStep s = .next t →
      t.out.tmrPoll = true ∧ t.seq ≠ s.seq) ∧
    (∀ t e, s.seq.isTiming = true → seqStep s = .next t →
      .rsp (.errBus e) ∉ newEvents s t ∧ .rsp .errInvalidInterrupt ∉ newEvents s t)

/-- R111: the steps of WRITE, row by row. -/
def Obligations.WriteStepTable : Prop :=
  ∀ (s : State),
    (∀ b, s.seq = .idle → exec (.write b) s =
      .next { accept (.write b) s with txSr := b, txCnt := 0#4, seq := .txStart }) ∧
    (s.seq = .txStart → s.pinSetAnswer = .ok →
      seqStep s = .next { pinSet .low s with seq := .txTreset }) ∧
    (∀ e, s.seq = .txStart → s.pinSetAnswer = .err e →
      seqStep s = .next (raise (.errBus e) (pinSet .low s))) ∧
    (s.seq = .txTreset → seqStep s = .next { timerReset s with
      dlyCnt := s.nalign, seq := if s.nalign = 0#3 then .txWaitStart else .txAlign }) ∧
    (s.seq = .txAlign → 1#3 ≤ s.dlyCnt → seqStep s = .next { nopCycle s with
      dlyCnt := s.dlyCnt - 1#3, seq := if 0#3 < s.dlyCnt - 1#3 then .txAlign else .txWaitStart }) ∧
    (s.seq = .txWaitStart → s.pollAnswer = .notYet → seqStep s = .next (timerPoll s)) ∧
    (s.seq = .txWaitStart → s.pollAnswer = .elapsed →
      seqStep s = .next { timerPoll s with seq := .txData }) ∧
    (s.seq = .txData → s.pinSetAnswer = .ok → seqStep s = .next
      { pinSet (if s.txSr.getLsbD 0 = true then .high else .low) s with
        txSr := s.txSr >>> 1, seq := .txWaitData }) ∧
    (∀ e, s.seq = .txData → s.pinSetAnswer = .err e → seqStep s = .next
      (raise (.errBus e) (pinSet (if s.txSr.getLsbD 0 = true then .high else .low) s))) ∧
    (s.seq = .txWaitData → s.pollAnswer = .notYet → seqStep s = .next (timerPoll s)) ∧
    (s.seq = .txWaitData → s.pollAnswer = .elapsed → s.txCnt < 7#4 →
      seqStep s = .next { timerPoll s with txCnt := s.txCnt + 1#4, seq := .txData }) ∧
    (s.seq = .txWaitData → s.pollAnswer = .elapsed → s.txCnt = 7#4 →
      seqStep s = .next { timerPoll s with txCnt := 8#4, seq := .txStop }) ∧
    (s.seq = .txStop → s.pinSetAnswer = .ok →
      seqStep s = .next { pinSet .high s with seq := .txWaitStop }) ∧
    (∀ e, s.seq = .txStop → s.pinSetAnswer = .err e →
      seqStep s = .next (raise (.errBus e) (pinSet .high s))) ∧
    (s.seq = .txWaitStop → s.pollAnswer = .notYet → seqStep s = .next (timerPoll s)) ∧
    (s.seq = .txWaitStop → s.pollAnswer = .elapsed →
      seqStep s = .next (finish .okUnit (timerPoll s)))

/-- R131: the steps of READ, row by row. -/
def Obligations.ReadStepTable : Prop :=
  ∀ (s : State),
    (∀ d, s.seq = .idle → exec (.read d) s =
      .next { accept .read s with rxSr := 0x00#8, rxCnt := 0#4, seq := .rxCheck }) ∧
    (∀ e, s.seq = .rxCheck → s.pinGetAnswer = .err e →
      seqStep s = .next (raise (.errBus e) (pinGet s))) ∧
    (s.seq = .rxCheck → s.pinGetAnswer = .ok .high →
      seqStep s = .next (raise .errInvalidInterrupt (pinGet s))) ∧
    (s.seq = .rxCheck → s.pinGetAnswer = .ok .low →
      seqStep s = .next { pinGet s with seq := .rxTreset }) ∧
    (s.seq = .rxTreset → seqStep s = .next { timerReset s with
      dlyCnt := s.nalign, seq := if s.nalign = 0#3 then .rxWaitStart else .rxAlign }) ∧
    (s.seq = .rxAlign → 1#3 ≤ s.dlyCnt → seqStep s = .next { nopCycle s with
      dlyCnt := s.dlyCnt - 1#3, seq := if 0#3 < s.dlyCnt - 1#3 then .rxAlign else .rxWaitStart }) ∧
    (s.seq = .rxWaitStart → s.pollAnswer = .notYet → seqStep s = .next (timerPoll s)) ∧
    (s.seq = .rxWaitStart → s.pollAnswer = .elapsed →
      seqStep s = .next { timerPoll s with seq := .rxData }) ∧
    (s.seq = .rxData → s.pinGetAnswer = .ok .high → seqStep s = .next
      { pinGet s with rxSr := (s.rxSr >>> 1) ||| 0x80#8, seq := .rxWaitData }) ∧
    (s.seq = .rxData → s.pinGetAnswer = .ok .low → seqStep s = .next
      { pinGet s with rxSr := s.rxSr >>> 1, seq := .rxWaitData }) ∧
    (∀ e, s.seq = .rxData → s.pinGetAnswer = .err e → seqStep s = .next
      (raise (.errBus e) { pinGet s with rxSr := s.rxSr >>> 1 })) ∧
    (s.seq = .rxWaitData → s.pollAnswer = .notYet → seqStep s = .next (timerPoll s)) ∧
    (s.seq = .rxWaitData → s.pollAnswer = .elapsed → s.rxCnt < 7#4 →
      seqStep s = .next { timerPoll s with rxCnt := s.rxCnt + 1#4, seq := .rxData }) ∧
    (s.seq = .rxWaitData → s.pollAnswer = .elapsed → s.rxCnt = 7#4 →
      seqStep s = .next { timerPoll s with rxCnt := 8#4, seq := .rxWaitStop }) ∧
    (s.seq = .rxWaitStop → s.pollAnswer = .notYet → seqStep s = .next (timerPoll s)) ∧
    (s.seq = .rxWaitStop → s.pollAnswer = .elapsed →
      seqStep s = .next (finish (.okByte s.rxSr) (timerPoll s)))

/-- Where the step tables have no row the model stops by name (the model's choice, assumption 10: a
safe fault in states that R40 excludes). -/
def Obligations.StatesWithoutATableRowFault : Prop :=
  ∀ s : State,
    (s.seq = .txAlign ∨ s.seq = .rxAlign → s.dlyCnt = 0#3 →
      seqStep s = .fault (.noTableRow s.seq)) ∧
    (s.seq = .txWaitData → s.pollAnswer = .elapsed → 7#4 < s.txCnt →
      seqStep s = .fault (.noTableRow .txWaitData)) ∧
    (s.seq = .rxWaitData → s.pollAnswer = .elapsed → 7#4 < s.rxCnt →
      seqStep s = .fault (.noTableRow .rxWaitData))

/-! ### Operations of the collaborators, errors -/

/-- R87: how each operation is spelled on the ports, and from which port its answer is read. That the
reference timer answers by its flag, as R98 has it, and not from the port is assumption 4 (DESIGN
CHOICE); that an error value is the low `EW` bits of the port is assumption 13 (DESIGN CHOICE). -/
def Obligations.OperationsAtThePorts : Prop :=
  ∀ (s : State),
    (pinSet .high s).out = { PortOut.quiet with txpReq := true, txpLevel := true } ∧
    (pinSet .low s).out = { PortOut.quiet with txpReq := true, txpLevel := false } ∧
    (s.now.txpErr = false → s.pinSetAnswer = .ok) ∧
    (s.now.txpErr = true → s.pinSetAnswer = .err (s.now.txpEcode % 2 ^ s.ew)) ∧
    (pinGet s).out = { PortOut.quiet with rxpReq := true } ∧
    (s.now.rxpErr = false → s.pinGetAnswer = .ok s.now.rxpLevel) ∧
    (s.now.rxpErr = true → s.pinGetAnswer = .err (s.now.rxpEcode % 2 ^ s.ew)) ∧
    (timerReset s).out = { PortOut.quiet with tmrReset := true } ∧
    (timerPoll s).out = { PortOut.quiet with tmrPoll := true } ∧
    (s.timerKind = .free → s.now.tmrElapsed = true → s.pollAnswer = .elapsed) ∧
    (s.timerKind = .free → s.now.tmrElapsed = false → s.pollAnswer = .notYet) ∧
    (s.timerKind = .contract → s.pollAnswer = if s.tFlag then .elapsed else .notYet) ∧
    (nopCycle s).out = PortOut.quiet ∧
    (∀ r, (respond r s).rspWord = resultWord s.ew r ∧
      (respond r s).out = { s.out with
        rspValid := true, rspStatus := statusOf r, rspData := rspDataOf r, rspErr := rspErrOf r }) ∧
    (respond .okUnit s).out = { s.out with
      rspValid := true, rspStatus := 0b00#2, rspData := 0x00#8, rspErr := 0 } ∧
    (∀ b, (respond (.okByte b) s).out = { s.out with
      rspValid := true, rspStatus := 0b00#2, rspData := b, rspErr := 0 }) ∧
    (∀ e, (respond (.errBus e) s).out = { s.out with
      rspValid := true, rspStatus := 0b01#2, rspData := 0x00#8, rspErr := e }) ∧
    (respond .errInvalidInterrupt s).out = { s.out with
      rspValid := true, rspStatus := 0b10#2, rspData := 0x00#8, rspErr := 0 }

/-- R32, R62: the transmit line takes the level of an answered drive, takes a free value when the
drive fails (assumption 2: the model's `Config.lineAfterFailedSet`), and holds its level in every
other step. -/
def Obligations.TransmitLineFollowsTheDrives : Prop :=
  ∀ s t : State, step s = .next t →
    (t.out.txpReq = false → t.txLine = s.txLine) ∧
    (t.out.txpReq = true → s.pinSetAnswer = .ok → t.txLine = levelOfBit t.out.txpLevel) ∧
    (∀ e, t.out.txpReq = true → s.pinSetAnswer = .err e →
      t.txLine = Config.lineAfterFailedSet s.cycle)

/-- R157: taking an error, all of it: the answer with `rsp_data = 0x00`, `IDLE`, and nothing else. The
payload of `ERR_BUS(e)` is on `rsp_err` unchanged, and `rsp_err` is 0 with `ERR_INVALID_INTERRUPT`
(R80, R151, R152). -/
def Obligations.RaiseAnswersAndGoesIdle : Prop :=
  ∀ s : State,
    (∀ e, raise (.errBus e) s = { s with
      seq := .idle
      out := { s.out with
        rspValid := true, rspStatus := 0b01#2, rspData := 0x00#8, rspErr := e }
      trace := s.trace ++ [.rsp (.errBus e)] } ∧
      (raise (.errBus e) s).cmdReady = true) ∧
    raise .errInvalidInterrupt s = { s with
      seq := .idle
      out := { s.out with
        rspValid := true, rspStatus := 0b10#2, rspData := 0x00#8, rspErr := 0 }
      trace := s.trace ++ [.rsp .errInvalidInterrupt] } ∧
    (raise .errInvalidInterrupt s).cmdReady = true

/-- Which step can raise which error, and exactly when: the spec's inferred table (60_exceptions.md rule
R153) from R111, R131, R151 and R152. -/
def Obligations.ErrorSources : Prop :=
  (∀ s t : State, seqStep s = .next t →
    (∀ e, .rsp (.errBus e) ∈ newEvents s t ↔
      ((s.seq = .txStart ∨ s.seq = .txData ∨ s.seq = .txStop) ∧ s.pinSetAnswer = .err e) ∨
      ((s.seq = .rxCheck ∨ s.seq = .rxData) ∧ s.pinGetAnswer = .err e)) ∧
    (.rsp .errInvalidInterrupt ∈ newEvents s t ↔
      s.seq = .rxCheck ∧ s.pinGetAnswer = .ok .high)) ∧
  ∀ (i : Instr) (s t : State), s.seq = .idle → exec i s = .next t →
    .rsp .errInvalidInterrupt ∉ newEvents s t ∧ ∀ e, .rsp (.errBus e) ∉ newEvents s t

/-- R98: the reference timer, in every cycle: counting, `TimerReset()`, and the poll's answer. -/
def Obligations.TimerContract : Prop :=
  ∀ s t : State, s.timerKind = .contract → step s = .next t →
    t.tCnt = (if t.out.tmrReset then 0 else if s.tCnt = s.period - 1 then 0 else s.tCnt + 1) ∧
    t.tFlag = (if t.out.tmrReset then false
      else if s.tCnt = s.period - 1 then true else s.tFlag && !t.out.tmrPoll) ∧
    (t.out.tmrPoll = true →
      .poll (if s.tFlag then .elapsed else .notYet) ∈ newEvents s t) ∧
    (∀ a, .poll a ∈ newEvents s t → t.out.tmrPoll = true) ∧
    t.period = s.period ∧ (s.tCnt < s.period → t.tCnt < t.period)

/-! ### Frames -/

/-- What the acceptance of a command leaves unchanged (R27, R118). -/
def Obligations.AcceptanceFrame : Prop :=
  ∀ (i : Instr) (s t : State), s.seq = .idle → exec i s = .next t →
    ((∀ b, i ≠ .write b) → t.txSr = s.txSr ∧ t.txCnt = s.txCnt) ∧
    ((∀ d, i ≠ .read d) → t.rxSr = s.rxSr ∧ t.rxCnt = s.rxCnt) ∧
    t.dlyCnt = s.dlyCnt ∧ t.txLine = s.txLine ∧ t.tCnt = s.tCnt ∧ t.tFlag = s.tFlag ∧
    t.period = s.period ∧ t.timerKind = s.timerKind ∧ t.nalign = s.nalign ∧ t.ew = s.ew ∧
    t.program = s.program ∧ t.now = s.now ∧ t.later = s.later ∧ t.cycle = s.cycle

/-- What a step of WRITE after its acceptance leaves unchanged (R27, R62, R110). -/
def Obligations.TransmitStepFrame : Prop :=
  ∀ s t : State, s.seq.isTx = true → seqStep s = .next t →
    (s.seq ≠ .txData → t.txSr = s.txSr) ∧
    (s.seq ≠ .txWaitData → t.txCnt = s.txCnt) ∧
    t.rxSr = s.rxSr ∧ t.rxCnt = s.rxCnt ∧
    (s.seq ≠ .txTreset → s.seq ≠ .txAlign → t.dlyCnt = s.dlyCnt) ∧
    (s.seq ≠ .txStart → s.seq ≠ .txData → s.seq ≠ .txStop → t.txLine = s.txLine) ∧
    (s.seq ≠ .txTreset → t.tCnt = s.tCnt) ∧
    (s.seq ≠ .txTreset → s.seq.isWait = false → t.tFlag = s.tFlag) ∧
    t.out.rxpReq = false ∧
    t.period = s.period ∧ t.timerKind = s.timerKind ∧ t.nalign = s.nalign ∧ t.ew = s.ew ∧
    t.cmdPort = s.cmdPort ∧ t.program = s.program ∧ t.now = s.now ∧ t.later = s.later ∧
    t.cycle = s.cycle

/-- What a step of READ after its acceptance leaves unchanged (R27, R62, R130). -/
def Obligations.ReceiveStepFrame : Prop :=
  ∀ s t : State, s.seq.isRx = true → seqStep s = .next t →
    t.txSr = s.txSr ∧ t.txCnt = s.txCnt ∧
    (s.seq ≠ .rxData → t.rxSr = s.rxSr) ∧
    (s.seq ≠ .rxWaitData → t.rxCnt = s.rxCnt) ∧
    (s.seq ≠ .rxTreset → s.seq ≠ .rxAlign → t.dlyCnt = s.dlyCnt) ∧
    t.txLine = s.txLine ∧
    (s.seq ≠ .rxTreset → t.tCnt = s.tCnt) ∧
    (s.seq ≠ .rxTreset → s.seq.isWait = false → t.tFlag = s.tFlag) ∧
    t.out.txpReq = false ∧
    t.period = s.period ∧ t.timerKind = s.timerKind ∧ t.nalign = s.nalign ∧ t.ew = s.ew ∧
    t.cmdPort = s.cmdPort ∧ t.program = s.program ∧ t.now = s.now ∧ t.later = s.later ∧
    t.cycle = s.cycle

/-- No step of any kind changes a parameter: the period, the timer, `NALIGN`, `EW` (R8, R29, R34). -/
def Obligations.ParametersNeverChange : Prop :=
  ∀ s t : State, step s = .next t →
    t.period = s.period ∧ t.timerKind = s.timerKind ∧ t.nalign = s.nalign ∧ t.ew = s.ew

/-! ### Arithmetic of the receive shift register -/

/-- Eight samples, whatever `rx_sr` held before, make the byte whose bit `k` is sample `k`: the spec's own
inference from R131 (42_receive.md rules R135 and R136). -/
def Obligations.SampledByte : Prop :=
  ∀ (r₀ : Byte) (s₀ s₁ s₂ s₃ s₄ s₅ s₆ s₇ : Level),
    (([s₀, s₁, s₂, s₃, s₄, s₅, s₆, s₇].foldl (fun r v => shiftIn v r) r₀).toNat =
      (bitOfLevel s₀).toNat + 2 * (bitOfLevel s₁).toNat + 4 * (bitOfLevel s₂).toNat +
      8 * (bitOfLevel s₃).toNat + 16 * (bitOfLevel s₄).toNat + 32 * (bitOfLevel s₅).toNat +
      64 * (bitOfLevel s₆).toNat + 128 * (bitOfLevel s₇).toNat)

/-! ### Invariants and whole-machine rules -/

/-- The invariant holds right after reset. -/
def Obligations.ResetMeetsTheInvariant : Prop := Inv State.reset

/-- Every step keeps the invariant, from every state that meets it: the spec infers its state part in
10_state.md rule R40; that an error value on the port is below `2 ^ EW` is assumption 13 (DESIGN
CHOICE). -/
def Obligations.StepKeepsTheInvariant : Prop :=
  ∀ s t : State, Inv s → step s = .next t → Inv t

/-- From a state that meets the invariant a step answers a next state, unless a word of the reserved
code is presented out of reset (assumptions 14 and 16, DEDUCED: a cycle in reset answers a next state
whatever is presented). -/
def Obligations.InvariantStatesStep : Prop :=
  ∀ s : State, Inv s →
    (s.now.rstN = true → ∀ w, s.cmdPort = some w → WellFormed (decode w) = true) →
    ∃ t, step s = .next t

/-- R80, R60: out of reset, a step starts a command exactly as often as it ends one, counting the
command in progress. -/
def Obligations.OneResponsePerCommand : Prop :=
  ∀ s t : State, s.now.rstN = true → step s = .next t →
    (newEvents s t).countP Event.isCmd + s.busy.toNat =
      (newEvents s t).countP Event.isRsp + t.busy.toNat

/-- The trace only grows, and no step reads it or the transmit line. -/
def Obligations.TraceAndTransmitLineAreNotRead : Prop :=
  ∀ (s t : State) (tr : List Event) (l : Level), step s = .next t →
    t.trace = s.trace ++ newEvents s t ∧
    ∃ l', step { s with trace := tr, txLine := l } =
      .next { t with trace := tr ++ newEvents s t, txLine := l' }

/-- R22 to R26, U16: the five data and count registers are dead in `IDLE`: whatever they hold there,
the rest of the run has the same trace, the same ports and the same line. -/
def Obligations.DataRegistersAreDeadInIdle : Prop :=
  ∀ (n : Nat) (s t : State) (a r : Byte) (b c : BitVec 4) (d : BitVec 3),
    s.seq = .idle → run n s = .next t →
    ∃ t', run n { s with txSr := a, txCnt := b, rxSr := r, rxCnt := c, dlyCnt := d } = .next t' ∧
      t'.trace = t.trace ∧ t'.out = t.out ∧ t'.txLine = t.txLine ∧ t'.seq = t.seq

/-- The receive port has no influence on a WRITE (95_test_vectors.md V38). -/
def Obligations.WriteIgnoresTheReceivePort : Prop :=
  ∀ (s t : State) (v : Level) (er : Bool) (e : ErrCode), s.seq.isRx = false →
    seqStep s = .next t →
    seqStep { s with now := { s.now with rxpLevel := v, rxpErr := er, rxpEcode := e } } =
      .next { t with now := { t.now with rxpLevel := v, rxpErr := er, rxpEcode := e } }

/-- R94, R168: while the timer answers `NOT_YET` a waiting command stays where it is: no answer, no
acceptance, no error, for any number of cycles. -/
def Obligations.StalledTimerHangs : Prop :=
  ∀ (n : Nat) (s : State), s.seq.isWait = true → Stalled n s →
    (∀ w, s.cmdPort = some w → WellFormed (decode w) = true) →
    ∃ t, run n s = .next t ∧ t.seq = s.seq ∧
      t.trace = s.trace ++ List.replicate n (.poll .notYet) ∧
      t.cmdPort = s.cmdPort ∧ t.cmdReady = false

/-! ### Whole commands -/

/-- R11, R81: which results each command can answer. -/
def Obligations.ResultsOfEachCommand : Prop :=
  ∀ (s : State) (c : Command) (mid : List Event) (r : Result), Answered s c mid r →
    (∀ b, c = .write b → r = .okUnit ∨ ∃ e, r = .errBus e) ∧
    (c = .flush → r = .okUnit ∧ mid = []) ∧
    (c = .read → (∃ b, r = .okByte b) ∨ (∃ e, r = .errBus e) ∨ r = .errInvalidInterrupt)

/-- The trace of an answered WRITE in which no pin operation fails, the number of `NOT_YET` of each wait
left open (R99): the spec's own inference from R111 (41_transmit.md rule R112). -/
def Obligations.WriteSuccessTrace : Prop :=
  ∀ (s : State) (b : Byte) (mid : List Event) (r : Result),
    Answered s (.write b) mid r → mid.all (fun e => !e.isPinFailure) = true →
    r = .okUnit ∧ ∃ w, mid = txCells s.nalign b w 10

/-- R114: the trace of a WRITE whose answer is an error: some `TxSet` fails, the cells before it are on
the line, and nothing follows it. -/
def Obligations.WriteFailureTrace : Prop :=
  ∀ (s : State) (b : Byte) (mid : List Event) (r : Result),
    Answered s (.write b) mid r → r ≠ .okUnit →
    ∃ k e w, k < 10 ∧ r = .errBus e ∧
      mid = txCells s.nalign b w k ++ [.txSet (cell b k) (.err e)]

/-- The trace of a READ that answers `OK_BYTE(r)`, and what `r` is: the spec's own inferences from R131
(42_receive.md rules R138 and R135). -/
def Obligations.ReadSuccessTrace : Prop :=
  ∀ (s : State) (mid : List Event) (r : Byte), Answered s .read mid (.okByte r) →
    ∃ w, mid = rxCells s.nalign r w 9 ++ waitEvents (w 9)

/-- R132, R133, R139: the traces of a READ whose answer is an error. -/
def Obligations.ReadFailureTrace : Prop :=
  ∀ (s : State) (mid : List Event) (r : Result),
    Answered s .read mid r → (∀ b, r ≠ .okByte b) →
    (r = .errInvalidInterrupt ∧ mid = [.rxGet (.ok .high)]) ∨
    ∃ k e b w, k < 9 ∧ r = .errBus e ∧
      mid = rxCells s.nalign b w k ++ [.rxGet (.err e)]

/-- The round-trip law, which the spec infers (42_receive.md rule R141): a READ that is given the first nine levels of a successful WRITE of `b`
answers `OK_BYTE(b)`. -/
def Obligations.RoundTripLaw : Prop :=
  ∀ (s₁ s₂ : State) (b : Byte) (mid₁ mid₂ : List Event) (r : Result),
    Answered s₁ (.write b) mid₁ .okUnit → Answered s₂ .read mid₂ r →
    levelsRead mid₂ = (levelsDriven mid₁).take 9 → r = .okByte b

/-- R96: between any two consecutive pin operations of one answered command there is exactly one
full-period wait. -/
def Obligations.PacingLaw : Prop :=
  ∀ (s : State) (c : Command) (mid : List Event) (r : Result),
    Answered s c mid r → paced mid = true

/-- R132, R133: the precondition check of a READ, two cycles from its presentation, with no reset in
either: a HIGH line and a failed read end it with no timer operation, a LOW line lets it go on. That
the error value is the low `EW` bits of the port is the model's choice (assumption 13, DESIGN
CHOICE). -/
def Obligations.ReadChecksTheLineFirst : Prop :=
  ∀ (s : State) (d : Byte) (p : PortIn) (ps : List PortIn),
    Presents s (.read d) → s.later = p :: ps → p.rstN = true →
    ∃ u t, run 1 s = .next u ∧ run 2 s = .next t ∧
      t.out.rxpReq = true ∧ u.out = PortOut.quiet ∧
      t.out.txpReq = false ∧ t.out.tmrReset = false ∧ t.out.tmrPoll = false ∧
      (p.rxpErr = false → p.rxpLevel = .high → t.seq = .idle ∧
        t.trace = s.trace ++ [.cmd .read, .rxGet (.ok .high), .rsp .errInvalidInterrupt]) ∧
      (p.rxpErr = true → t.seq = .idle ∧
        t.trace = s.trace ++ [.cmd .read, .rxGet (.err (p.rxpEcode % 2 ^ s.ew)),
          .rsp (.errBus (p.rxpEcode % 2 ^ s.ew))]) ∧
      (p.rxpErr = false → p.rxpLevel = .low → t.seq = .rxTreset ∧
        t.trace = s.trace ++ [.cmd .read, .rxGet (.ok .low)])

/-! ### Whole commands under the reference timer -/

/-- Cycle by cycle, counted from the acceptance: the column WRITE of the spec's inferred table
(70_reset_and_hazards.md rule R197). -/
def Obligations.WriteCycleCounts : Prop :=
  ∀ (s : State) (b : Byte), Presents s (.write b) → s.timerKind = .contract →
    s.nalign.toNat ≤ s.period → 2 ≤ s.period → Calm (4 + 10 * s.period) s →
    ∀ m < 4 + 10 * s.period, ∃ u v, run m s = .next u ∧ step u = .next v ∧
      (v.out.txpReq = true ↔ m = 1 ∨ ∃ j, 1 ≤ j ∧ j ≤ 9 ∧ m = 4 + j * s.period) ∧
      (v.out.tmrReset = true ↔ m = 2) ∧
      (.nop ∈ newEvents u v ↔ 3 ≤ m ∧ m ≤ 2 + s.nalign.toNat) ∧
      (v.out.tmrPoll = true ↔
        3 + s.nalign.toNat ≤ m ∧ ∀ j, 1 ≤ j → j ≤ 9 → m ≠ 4 + j * s.period) ∧
      (.poll .elapsed ∈ newEvents u v ↔ ∃ k, 1 ≤ k ∧ k ≤ 10 ∧ m = 3 + k * s.period) ∧
      (v.out.rspValid = true ↔ m = 3 + 10 * s.period) ∧
      (v.cmdReady = true ↔ m = 3 + 10 * s.period)

/-- The column READ of the same table, for a READ that finds the line LOW. -/
def Obligations.ReadCycleCounts : Prop :=
  ∀ (s : State) (d : Byte), Presents s (.read d) → s.timerKind = .contract →
    s.nalign.toNat ≤ s.period → 2 ≤ s.period → Calm (4 + 10 * s.period) s →
    (∀ p, s.later.head? = some p → p.rxpLevel = .low) →
    ∀ m < 4 + 10 * s.period, ∃ u v, run m s = .next u ∧ step u = .next v ∧
      (v.out.rxpReq = true ↔ m = 1 ∨ ∃ j, 1 ≤ j ∧ j ≤ 8 ∧ m = 4 + j * s.period) ∧
      (v.out.tmrReset = true ↔ m = 2) ∧
      (.nop ∈ newEvents u v ↔ 3 ≤ m ∧ m ≤ 2 + s.nalign.toNat) ∧
      (v.out.tmrPoll = true ↔
        3 + s.nalign.toNat ≤ m ∧ ∀ j, 1 ≤ j → j ≤ 8 → m ≠ 4 + j * s.period) ∧
      (.poll .elapsed ∈ newEvents u v ↔ ∃ k, 1 ≤ k ∧ k ≤ 10 ∧ m = 3 + k * s.period) ∧
      (v.out.rspValid = true ↔ m = 3 + 10 * s.period) ∧
      (v.cmdReady = true ↔ m = 3 + 10 * s.period)

/-- R113 with the cycles that the spec infers in 70_reset_and_hazards.md: what the transmit line holds after every cycle of a WRITE, counted
from its acceptance; the last answer leaves it HIGH. -/
def Obligations.WriteHoldsEachCell : Prop :=
  ∀ (s : State) (b : Byte), Presents s (.write b) → s.timerKind = .contract →
    s.nalign.toNat ≤ s.period → 2 ≤ s.period → Calm (4 + 10 * s.period) s →
    ∀ m < 4 + 10 * s.period, ∃ t, run (m + 1) s = .next t ∧
      (m = 0 → t.txLine = s.txLine) ∧
      (1 ≤ m → m < 4 + s.period → t.txLine = cell b 0) ∧
      (∀ k, 1 ≤ k → k ≤ 8 → 4 + k * s.period ≤ m → m < 4 + (k + 1) * s.period →
        t.txLine = cell b k) ∧
      (4 + 9 * s.period ≤ m → t.txLine = .high)

/-- R130 with the cycles and the byte that the spec infers (rules R135 and R197): a READ that finds the line LOW and whose pin reads succeed answers
the byte whose bit `k` is the level of the receive line in the cycle of sample `k`; no other level of
the line matters. -/
def Obligations.ReadAnswersTheSampledByte : Prop :=
  ∀ (s : State) (d : Byte), Presents s (.read d) → s.timerKind = .contract →
    s.nalign.toNat ≤ s.period → 2 ≤ s.period → Calm (4 + 10 * s.period) s →
    (∀ p, s.later.head? = some p → p.rxpLevel = .low) →
    ∃ t mid r, run (4 + 10 * s.period) s = .next t ∧
      t.trace = s.trace ++ (.cmd .read :: mid ++ [.rsp (.okByte r)]) ∧ inner mid = true ∧
      t.seq = .idle ∧ t.txLine = s.txLine ∧
      t.out.rspStatus = 0b00#2 ∧ t.out.rspData = r ∧
      ∀ k < 8, ∀ p, (s.now :: s.later)[4 + (k + 1) * s.period]? = some p →
        r.getLsbD k = bitOfLevel p.rxpLevel

/-- R119, and the spec's inference in 70_reset_and_hazards.md rule R198: under the reference timer with
any period a WRITE whose pin operations succeed is
answered `OK_UNIT`, within a bound. -/
def Obligations.WriteIsAnsweredForEveryPeriod : Prop :=
  ∀ (s : State) (b : Byte), Presents s (.write b) → s.timerKind = .contract → 1 ≤ s.period →
    Calm (s.nalign.toNat + 10 * s.period + 24) s →
    ∃ n t mid, n ≤ s.nalign.toNat + 10 * s.period + 24 ∧ run n s = .next t ∧
      t.trace = s.trace ++ (.cmd (.write b) :: mid ++ [.rsp .okUnit]) ∧ inner mid = true ∧
      levelsDriven mid = (List.range 10).map (cell b) ∧
      t.txLine = .high ∧ t.seq = .idle

/-- R143, and the same inference of rule R198: under the reference timer with any period a READ that
finds the line LOW and whose pin reads succeed is answered `OK_BYTE(r)`, within a bound, after nine
reads: the check and the eight samples, sample `k` being bit `k` of `r`. -/
def Obligations.ReadIsAnsweredForEveryPeriod : Prop :=
  ∀ (s : State) (d : Byte), Presents s (.read d) → s.timerKind = .contract → 1 ≤ s.period →
    Calm (s.nalign.toNat + 10 * s.period + 24) s →
    (∀ p, s.later.head? = some p → p.rxpLevel = .low) →
    ∃ n t mid r, n ≤ s.nalign.toNat + 10 * s.period + 24 ∧ run n s = .next t ∧
      t.trace = s.trace ++ (.cmd .read :: mid ++ [.rsp (.okByte r)]) ∧ inner mid = true ∧
      levelsRead mid = (List.range 9).map (cell r) ∧
      t.txLine = s.txLine ∧ t.seq = .idle
end

