-- ==== Sys2Proof/Laws/PerInstr.lean ====
section
/-!
SUPPORT. Per-instruction laws. WordFields: the encoder puts the command code of R79 in bits 9:8 of the
word and the data field, as it stands, in bits 7:0 (R78).
-/

namespace Sys2Proof.Laws.WordFields

/-- The two fields of an instruction's word are its command code and its data field. -/
def Statement (i : Instr) : Prop :=
  cmdOp (encode i) = opcodeOf i ∧ cmdData (encode i) = dataOf i

theorem fields_of_append (o : BitVec 2) (d : Byte) :
    cmdOp (o ++ d) = o ∧ cmdData (o ++ d) = d := by
  have bit (j : Nat) : BitVec.getLsbD (w := 10) (o ++ d) j =
      if j < 8 then d.getLsbD j else o.getLsbD (j - 8) := BitVec.getLsbD_append
  constructor
  · ext j hj
    simp [cmdOp, bit, BitVec.getLsbD_eq_getElem hj]
  · ext j hj
    simp [cmdData, bit, hj]

theorem write (b : Byte) : Statement (.write b) := fields_of_append _ b

theorem flush (d : Byte) : Statement (.flush d) := fields_of_append _ d

theorem read (d : Byte) : Statement (.read d) := fields_of_append _ d

theorem reserved11 (d : Byte) : Statement (.reserved11 d) := fields_of_append _ d

end Sys2Proof.Laws.WordFields
end

