-- ==== Sys2Proof/Laws/State.lean ====
section
/-!
SUPPORT. What each shared operation does to each field of State, one lemma per field and operation, so
that no later proof unfolds a record update.
-/

namespace Sys2Proof.Machine

variable (s : State)

/-! ### quiet -/

@[simp] theorem quiet_seq : (quiet s).seq = s.seq := rfl
@[simp] theorem quiet_txSr : (quiet s).txSr = s.txSr := rfl
@[simp] theorem quiet_txCnt : (quiet s).txCnt = s.txCnt := rfl
@[simp] theorem quiet_rxSr : (quiet s).rxSr = s.rxSr := rfl
@[simp] theorem quiet_rxCnt : (quiet s).rxCnt = s.rxCnt := rfl
@[simp] theorem quiet_dlyCnt : (quiet s).dlyCnt = s.dlyCnt := rfl
@[simp] theorem quiet_out : (quiet s).out = PortOut.quiet := rfl
@[simp] theorem quiet_txLine : (quiet s).txLine = s.txLine := rfl
@[simp] theorem quiet_tCnt : (quiet s).tCnt = s.tCnt := rfl
@[simp] theorem quiet_tFlag : (quiet s).tFlag = s.tFlag := rfl
@[simp] theorem quiet_period : (quiet s).period = s.period := rfl
@[simp] theorem quiet_timerKind : (quiet s).timerKind = s.timerKind := rfl
@[simp] theorem quiet_nalign : (quiet s).nalign = s.nalign := rfl
@[simp] theorem quiet_ew : (quiet s).ew = s.ew := rfl
@[simp] theorem quiet_cmdPort : (quiet s).cmdPort = s.cmdPort := rfl
@[simp] theorem quiet_program : (quiet s).program = s.program := rfl
@[simp] theorem quiet_now : (quiet s).now = s.now := rfl
@[simp] theorem quiet_later : (quiet s).later = s.later := rfl
@[simp] theorem quiet_trace : (quiet s).trace = s.trace := rfl
@[simp] theorem quiet_cycle : (quiet s).cycle = s.cycle := rfl

/-! ### pinSet -/

@[simp] theorem pinSet_seq (v : Level) : (pinSet v s).seq = s.seq := rfl
@[simp] theorem pinSet_txSr (v : Level) : (pinSet v s).txSr = s.txSr := rfl
@[simp] theorem pinSet_txCnt (v : Level) : (pinSet v s).txCnt = s.txCnt := rfl
@[simp] theorem pinSet_rxSr (v : Level) : (pinSet v s).rxSr = s.rxSr := rfl
@[simp] theorem pinSet_rxCnt (v : Level) : (pinSet v s).rxCnt = s.rxCnt := rfl
@[simp] theorem pinSet_dlyCnt (v : Level) : (pinSet v s).dlyCnt = s.dlyCnt := rfl
@[simp] theorem pinSet_out (v : Level) : (pinSet v s).out = { PortOut.quiet with txpReq := true, txpLevel := bitOfLevel v } := rfl
@[simp] theorem pinSet_txLine (v : Level) : (pinSet v s).txLine = lineAfterSet v s := rfl
@[simp] theorem pinSet_tCnt (v : Level) : (pinSet v s).tCnt = s.tCnt := rfl
@[simp] theorem pinSet_tFlag (v : Level) : (pinSet v s).tFlag = s.tFlag := rfl
@[simp] theorem pinSet_period (v : Level) : (pinSet v s).period = s.period := rfl
@[simp] theorem pinSet_timerKind (v : Level) : (pinSet v s).timerKind = s.timerKind := rfl
@[simp] theorem pinSet_nalign (v : Level) : (pinSet v s).nalign = s.nalign := rfl
@[simp] theorem pinSet_ew (v : Level) : (pinSet v s).ew = s.ew := rfl
@[simp] theorem pinSet_cmdPort (v : Level) : (pinSet v s).cmdPort = s.cmdPort := rfl
@[simp] theorem pinSet_program (v : Level) : (pinSet v s).program = s.program := rfl
@[simp] theorem pinSet_now (v : Level) : (pinSet v s).now = s.now := rfl
@[simp] theorem pinSet_later (v : Level) : (pinSet v s).later = s.later := rfl
@[simp] theorem pinSet_trace (v : Level) : (pinSet v s).trace = s.trace ++ [.txSet v s.pinSetAnswer] := rfl
@[simp] theorem pinSet_cycle (v : Level) : (pinSet v s).cycle = s.cycle := rfl

/-! ### pinGet -/

@[simp] theorem pinGet_seq : (pinGet s).seq = s.seq := rfl
@[simp] theorem pinGet_txSr : (pinGet s).txSr = s.txSr := rfl
@[simp] theorem pinGet_txCnt : (pinGet s).txCnt = s.txCnt := rfl
@[simp] theorem pinGet_rxSr : (pinGet s).rxSr = s.rxSr := rfl
@[simp] theorem pinGet_rxCnt : (pinGet s).rxCnt = s.rxCnt := rfl
@[simp] theorem pinGet_dlyCnt : (pinGet s).dlyCnt = s.dlyCnt := rfl
@[simp] theorem pinGet_out : (pinGet s).out = { PortOut.quiet with rxpReq := true } := rfl
@[simp] theorem pinGet_txLine : (pinGet s).txLine = s.txLine := rfl
@[simp] theorem pinGet_tCnt : (pinGet s).tCnt = s.tCnt := rfl
@[simp] theorem pinGet_tFlag : (pinGet s).tFlag = s.tFlag := rfl
@[simp] theorem pinGet_period : (pinGet s).period = s.period := rfl
@[simp] theorem pinGet_timerKind : (pinGet s).timerKind = s.timerKind := rfl
@[simp] theorem pinGet_nalign : (pinGet s).nalign = s.nalign := rfl
@[simp] theorem pinGet_ew : (pinGet s).ew = s.ew := rfl
@[simp] theorem pinGet_cmdPort : (pinGet s).cmdPort = s.cmdPort := rfl
@[simp] theorem pinGet_program : (pinGet s).program = s.program := rfl
@[simp] theorem pinGet_now : (pinGet s).now = s.now := rfl
@[simp] theorem pinGet_later : (pinGet s).later = s.later := rfl
@[simp] theorem pinGet_trace : (pinGet s).trace = s.trace ++ [.rxGet s.pinGetAnswer] := rfl
@[simp] theorem pinGet_cycle : (pinGet s).cycle = s.cycle := rfl

/-! ### timerReset -/

@[simp] theorem timerReset_seq : (timerReset s).seq = s.seq := rfl
@[simp] theorem timerReset_txSr : (timerReset s).txSr = s.txSr := rfl
@[simp] theorem timerReset_txCnt : (timerReset s).txCnt = s.txCnt := rfl
@[simp] theorem timerReset_rxSr : (timerReset s).rxSr = s.rxSr := rfl
@[simp] theorem timerReset_rxCnt : (timerReset s).rxCnt = s.rxCnt := rfl
@[simp] theorem timerReset_dlyCnt : (timerReset s).dlyCnt = s.dlyCnt := rfl
@[simp] theorem timerReset_out : (timerReset s).out = { PortOut.quiet with tmrReset := true } := rfl
@[simp] theorem timerReset_txLine : (timerReset s).txLine = s.txLine := rfl
@[simp] theorem timerReset_tCnt : (timerReset s).tCnt = 0 := rfl
@[simp] theorem timerReset_tFlag : (timerReset s).tFlag = false := rfl
@[simp] theorem timerReset_period : (timerReset s).period = s.period := rfl
@[simp] theorem timerReset_timerKind : (timerReset s).timerKind = s.timerKind := rfl
@[simp] theorem timerReset_nalign : (timerReset s).nalign = s.nalign := rfl
@[simp] theorem timerReset_ew : (timerReset s).ew = s.ew := rfl
@[simp] theorem timerReset_cmdPort : (timerReset s).cmdPort = s.cmdPort := rfl
@[simp] theorem timerReset_program : (timerReset s).program = s.program := rfl
@[simp] theorem timerReset_now : (timerReset s).now = s.now := rfl
@[simp] theorem timerReset_later : (timerReset s).later = s.later := rfl
@[simp] theorem timerReset_trace : (timerReset s).trace = s.trace ++ [.tReset] := rfl
@[simp] theorem timerReset_cycle : (timerReset s).cycle = s.cycle := rfl

/-! ### timerPoll -/

@[simp] theorem timerPoll_seq : (timerPoll s).seq = s.seq := rfl
@[simp] theorem timerPoll_txSr : (timerPoll s).txSr = s.txSr := rfl
@[simp] theorem timerPoll_txCnt : (timerPoll s).txCnt = s.txCnt := rfl
@[simp] theorem timerPoll_rxSr : (timerPoll s).rxSr = s.rxSr := rfl
@[simp] theorem timerPoll_rxCnt : (timerPoll s).rxCnt = s.rxCnt := rfl
@[simp] theorem timerPoll_dlyCnt : (timerPoll s).dlyCnt = s.dlyCnt := rfl
@[simp] theorem timerPoll_out : (timerPoll s).out = { PortOut.quiet with tmrPoll := true } := rfl
@[simp] theorem timerPoll_txLine : (timerPoll s).txLine = s.txLine := rfl
@[simp] theorem timerPoll_tCnt : (timerPoll s).tCnt = s.tCnt := rfl
@[simp] theorem timerPoll_tFlag : (timerPoll s).tFlag = (match s.pollAnswer with | .elapsed => false | .notYet => s.tFlag) := rfl
@[simp] theorem timerPoll_period : (timerPoll s).period = s.period := rfl
@[simp] theorem timerPoll_timerKind : (timerPoll s).timerKind = s.timerKind := rfl
@[simp] theorem timerPoll_nalign : (timerPoll s).nalign = s.nalign := rfl
@[simp] theorem timerPoll_ew : (timerPoll s).ew = s.ew := rfl
@[simp] theorem timerPoll_cmdPort : (timerPoll s).cmdPort = s.cmdPort := rfl
@[simp] theorem timerPoll_program : (timerPoll s).program = s.program := rfl
@[simp] theorem timerPoll_now : (timerPoll s).now = s.now := rfl
@[simp] theorem timerPoll_later : (timerPoll s).later = s.later := rfl
@[simp] theorem timerPoll_trace : (timerPoll s).trace = s.trace ++ [.poll s.pollAnswer] := rfl
@[simp] theorem timerPoll_cycle : (timerPoll s).cycle = s.cycle := rfl

/-! ### nopCycle -/

@[simp] theorem nopCycle_seq : (nopCycle s).seq = s.seq := rfl
@[simp] theorem nopCycle_txSr : (nopCycle s).txSr = s.txSr := rfl
@[simp] theorem nopCycle_txCnt : (nopCycle s).txCnt = s.txCnt := rfl
@[simp] theorem nopCycle_rxSr : (nopCycle s).rxSr = s.rxSr := rfl
@[simp] theorem nopCycle_rxCnt : (nopCycle s).rxCnt = s.rxCnt := rfl
@[simp] theorem nopCycle_dlyCnt : (nopCycle s).dlyCnt = s.dlyCnt := rfl
@[simp] theorem nopCycle_out : (nopCycle s).out = PortOut.quiet := rfl
@[simp] theorem nopCycle_txLine : (nopCycle s).txLine = s.txLine := rfl
@[simp] theorem nopCycle_tCnt : (nopCycle s).tCnt = s.tCnt := rfl
@[simp] theorem nopCycle_tFlag : (nopCycle s).tFlag = s.tFlag := rfl
@[simp] theorem nopCycle_period : (nopCycle s).period = s.period := rfl
@[simp] theorem nopCycle_timerKind : (nopCycle s).timerKind = s.timerKind := rfl
@[simp] theorem nopCycle_nalign : (nopCycle s).nalign = s.nalign := rfl
@[simp] theorem nopCycle_ew : (nopCycle s).ew = s.ew := rfl
@[simp] theorem nopCycle_cmdPort : (nopCycle s).cmdPort = s.cmdPort := rfl
@[simp] theorem nopCycle_program : (nopCycle s).program = s.program := rfl
@[simp] theorem nopCycle_now : (nopCycle s).now = s.now := rfl
@[simp] theorem nopCycle_later : (nopCycle s).later = s.later := rfl
@[simp] theorem nopCycle_trace : (nopCycle s).trace = s.trace ++ [.nop] := rfl
@[simp] theorem nopCycle_cycle : (nopCycle s).cycle = s.cycle := rfl

/-! ### finish -/

@[simp] theorem finish_seq (r : Result) : (finish r s).seq = .idle := rfl
@[simp] theorem finish_txSr (r : Result) : (finish r s).txSr = s.txSr := rfl
@[simp] theorem finish_txCnt (r : Result) : (finish r s).txCnt = s.txCnt := rfl
@[simp] theorem finish_rxSr (r : Result) : (finish r s).rxSr = s.rxSr := rfl
@[simp] theorem finish_rxCnt (r : Result) : (finish r s).rxCnt = s.rxCnt := rfl
@[simp] theorem finish_dlyCnt (r : Result) : (finish r s).dlyCnt = s.dlyCnt := rfl
@[simp] theorem finish_out (r : Result) : (finish r s).out = { s.out with rspValid := true, rspStatus := statusOf r, rspData := rspDataOf r, rspErr := rspErrOf r } := rfl
@[simp] theorem finish_txLine (r : Result) : (finish r s).txLine = s.txLine := rfl
@[simp] theorem finish_tCnt (r : Result) : (finish r s).tCnt = s.tCnt := rfl
@[simp] theorem finish_tFlag (r : Result) : (finish r s).tFlag = s.tFlag := rfl
@[simp] theorem finish_period (r : Result) : (finish r s).period = s.period := rfl
@[simp] theorem finish_timerKind (r : Result) : (finish r s).timerKind = s.timerKind := rfl
@[simp] theorem finish_nalign (r : Result) : (finish r s).nalign = s.nalign := rfl
@[simp] theorem finish_ew (r : Result) : (finish r s).ew = s.ew := rfl
@[simp] theorem finish_cmdPort (r : Result) : (finish r s).cmdPort = s.cmdPort := rfl
@[simp] theorem finish_program (r : Result) : (finish r s).program = s.program := rfl
@[simp] theorem finish_now (r : Result) : (finish r s).now = s.now := rfl
@[simp] theorem finish_later (r : Result) : (finish r s).later = s.later := rfl
@[simp] theorem finish_trace (r : Result) : (finish r s).trace = s.trace ++ [.rsp r] := rfl
@[simp] theorem finish_cycle (r : Result) : (finish r s).cycle = s.cycle := rfl

/-! ### accept -/

@[simp] theorem accept_seq (c : Command) : (accept c s).seq = s.seq := rfl
@[simp] theorem accept_txSr (c : Command) : (accept c s).txSr = s.txSr := rfl
@[simp] theorem accept_txCnt (c : Command) : (accept c s).txCnt = s.txCnt := rfl
@[simp] theorem accept_rxSr (c : Command) : (accept c s).rxSr = s.rxSr := rfl
@[simp] theorem accept_rxCnt (c : Command) : (accept c s).rxCnt = s.rxCnt := rfl
@[simp] theorem accept_dlyCnt (c : Command) : (accept c s).dlyCnt = s.dlyCnt := rfl
@[simp] theorem accept_out (c : Command) : (accept c s).out = PortOut.quiet := rfl
@[simp] theorem accept_txLine (c : Command) : (accept c s).txLine = s.txLine := rfl
@[simp] theorem accept_tCnt (c : Command) : (accept c s).tCnt = s.tCnt := rfl
@[simp] theorem accept_tFlag (c : Command) : (accept c s).tFlag = s.tFlag := rfl
@[simp] theorem accept_period (c : Command) : (accept c s).period = s.period := rfl
@[simp] theorem accept_timerKind (c : Command) : (accept c s).timerKind = s.timerKind := rfl
@[simp] theorem accept_nalign (c : Command) : (accept c s).nalign = s.nalign := rfl
@[simp] theorem accept_ew (c : Command) : (accept c s).ew = s.ew := rfl
@[simp] theorem accept_cmdPort (c : Command) : (accept c s).cmdPort = none := rfl
@[simp] theorem accept_program (c : Command) : (accept c s).program = s.program := rfl
@[simp] theorem accept_now (c : Command) : (accept c s).now = s.now := rfl
@[simp] theorem accept_later (c : Command) : (accept c s).later = s.later := rfl
@[simp] theorem accept_trace (c : Command) : (accept c s).trace = s.trace ++ [.cmd c] := rfl
@[simp] theorem accept_cycle (c : Command) : (accept c s).cycle = s.cycle := rfl

/-! ### resetBlock -/

@[simp] theorem resetBlock_seq : (resetBlock s).seq = .idle := rfl
@[simp] theorem resetBlock_txSr : (resetBlock s).txSr = 0#8 := rfl
@[simp] theorem resetBlock_txCnt : (resetBlock s).txCnt = 0#4 := rfl
@[simp] theorem resetBlock_rxSr : (resetBlock s).rxSr = 0#8 := rfl
@[simp] theorem resetBlock_rxCnt : (resetBlock s).rxCnt = 0#4 := rfl
@[simp] theorem resetBlock_dlyCnt : (resetBlock s).dlyCnt = 0#3 := rfl
@[simp] theorem resetBlock_out : (resetBlock s).out = PortOut.quiet := rfl
@[simp] theorem resetBlock_txLine : (resetBlock s).txLine = s.txLine := rfl
@[simp] theorem resetBlock_tCnt : (resetBlock s).tCnt = s.tCnt := rfl
@[simp] theorem resetBlock_tFlag : (resetBlock s).tFlag = s.tFlag := rfl
@[simp] theorem resetBlock_period : (resetBlock s).period = s.period := rfl
@[simp] theorem resetBlock_timerKind : (resetBlock s).timerKind = s.timerKind := rfl
@[simp] theorem resetBlock_nalign : (resetBlock s).nalign = s.nalign := rfl
@[simp] theorem resetBlock_ew : (resetBlock s).ew = s.ew := rfl
@[simp] theorem resetBlock_cmdPort : (resetBlock s).cmdPort = s.cmdPort := rfl
@[simp] theorem resetBlock_program : (resetBlock s).program = s.program := rfl
@[simp] theorem resetBlock_now : (resetBlock s).now = s.now := rfl
@[simp] theorem resetBlock_later : (resetBlock s).later = s.later := rfl
@[simp] theorem resetBlock_trace : (resetBlock s).trace = s.trace := rfl
@[simp] theorem resetBlock_cycle : (resetBlock s).cycle = s.cycle := rfl

/-! ### timerCount -/

@[simp] theorem timerCount_seq : (timerCount s).seq = s.seq := rfl
@[simp] theorem timerCount_txSr : (timerCount s).txSr = s.txSr := rfl
@[simp] theorem timerCount_txCnt : (timerCount s).txCnt = s.txCnt := rfl
@[simp] theorem timerCount_rxSr : (timerCount s).rxSr = s.rxSr := rfl
@[simp] theorem timerCount_rxCnt : (timerCount s).rxCnt = s.rxCnt := rfl
@[simp] theorem timerCount_dlyCnt : (timerCount s).dlyCnt = s.dlyCnt := rfl
@[simp] theorem timerCount_out : (timerCount s).out = s.out := rfl
@[simp] theorem timerCount_txLine : (timerCount s).txLine = s.txLine := rfl
@[simp] theorem timerCount_period : (timerCount s).period = s.period := rfl
@[simp] theorem timerCount_timerKind : (timerCount s).timerKind = s.timerKind := rfl
@[simp] theorem timerCount_nalign : (timerCount s).nalign = s.nalign := rfl
@[simp] theorem timerCount_ew : (timerCount s).ew = s.ew := rfl
@[simp] theorem timerCount_cmdPort : (timerCount s).cmdPort = s.cmdPort := rfl
@[simp] theorem timerCount_program : (timerCount s).program = s.program := rfl
@[simp] theorem timerCount_now : (timerCount s).now = s.now := rfl
@[simp] theorem timerCount_later : (timerCount s).later = s.later := rfl
@[simp] theorem timerCount_trace : (timerCount s).trace = s.trace := rfl
@[simp] theorem timerCount_cycle : (timerCount s).cycle = s.cycle := rfl

/-! ### nextInputs -/

@[simp] theorem nextInputs_seq : (nextInputs s).seq = s.seq := rfl
@[simp] theorem nextInputs_txSr : (nextInputs s).txSr = s.txSr := rfl
@[simp] theorem nextInputs_txCnt : (nextInputs s).txCnt = s.txCnt := rfl
@[simp] theorem nextInputs_rxSr : (nextInputs s).rxSr = s.rxSr := rfl
@[simp] theorem nextInputs_rxCnt : (nextInputs s).rxCnt = s.rxCnt := rfl
@[simp] theorem nextInputs_dlyCnt : (nextInputs s).dlyCnt = s.dlyCnt := rfl
@[simp] theorem nextInputs_out : (nextInputs s).out = s.out := rfl
@[simp] theorem nextInputs_txLine : (nextInputs s).txLine = s.txLine := rfl
@[simp] theorem nextInputs_tCnt : (nextInputs s).tCnt = s.tCnt := rfl
@[simp] theorem nextInputs_tFlag : (nextInputs s).tFlag = s.tFlag := rfl
@[simp] theorem nextInputs_period : (nextInputs s).period = s.period := rfl
@[simp] theorem nextInputs_timerKind : (nextInputs s).timerKind = s.timerKind := rfl
@[simp] theorem nextInputs_nalign : (nextInputs s).nalign = s.nalign := rfl
@[simp] theorem nextInputs_ew : (nextInputs s).ew = s.ew := rfl
@[simp] theorem nextInputs_cmdPort : (nextInputs s).cmdPort = s.cmdPort := rfl
@[simp] theorem nextInputs_program : (nextInputs s).program = s.program := rfl
@[simp] theorem nextInputs_later : (nextInputs s).later = s.later.tail := rfl
@[simp] theorem nextInputs_trace : (nextInputs s).trace = s.trace := rfl
@[simp] theorem nextInputs_cycle : (nextInputs s).cycle = s.cycle := rfl

/-! ### hostNext -/

@[simp] theorem hostNext_seq : (hostNext s).seq = s.seq := rfl
@[simp] theorem hostNext_txSr : (hostNext s).txSr = s.txSr := rfl
@[simp] theorem hostNext_txCnt : (hostNext s).txCnt = s.txCnt := rfl
@[simp] theorem hostNext_rxSr : (hostNext s).rxSr = s.rxSr := rfl
@[simp] theorem hostNext_rxCnt : (hostNext s).rxCnt = s.rxCnt := rfl
@[simp] theorem hostNext_dlyCnt : (hostNext s).dlyCnt = s.dlyCnt := rfl
@[simp] theorem hostNext_out : (hostNext s).out = s.out := rfl
@[simp] theorem hostNext_txLine : (hostNext s).txLine = s.txLine := rfl
@[simp] theorem hostNext_tCnt : (hostNext s).tCnt = s.tCnt := rfl
@[simp] theorem hostNext_tFlag : (hostNext s).tFlag = s.tFlag := rfl
@[simp] theorem hostNext_period : (hostNext s).period = s.period := rfl
@[simp] theorem hostNext_timerKind : (hostNext s).timerKind = s.timerKind := rfl
@[simp] theorem hostNext_nalign : (hostNext s).nalign = s.nalign := rfl
@[simp] theorem hostNext_ew : (hostNext s).ew = s.ew := rfl
@[simp] theorem hostNext_now : (hostNext s).now = s.now := rfl
@[simp] theorem hostNext_later : (hostNext s).later = s.later := rfl
@[simp] theorem hostNext_trace : (hostNext s).trace = s.trace := rfl
@[simp] theorem hostNext_cycle : (hostNext s).cycle = s.cycle := rfl

/-! ### countCycle -/

@[simp] theorem countCycle_seq : (countCycle s).seq = s.seq := rfl
@[simp] theorem countCycle_txSr : (countCycle s).txSr = s.txSr := rfl
@[simp] theorem countCycle_txCnt : (countCycle s).txCnt = s.txCnt := rfl
@[simp] theorem countCycle_rxSr : (countCycle s).rxSr = s.rxSr := rfl
@[simp] theorem countCycle_rxCnt : (countCycle s).rxCnt = s.rxCnt := rfl
@[simp] theorem countCycle_dlyCnt : (countCycle s).dlyCnt = s.dlyCnt := rfl
@[simp] theorem countCycle_out : (countCycle s).out = s.out := rfl
@[simp] theorem countCycle_txLine : (countCycle s).txLine = s.txLine := rfl
@[simp] theorem countCycle_tCnt : (countCycle s).tCnt = s.tCnt := rfl
@[simp] theorem countCycle_tFlag : (countCycle s).tFlag = s.tFlag := rfl
@[simp] theorem countCycle_period : (countCycle s).period = s.period := rfl
@[simp] theorem countCycle_timerKind : (countCycle s).timerKind = s.timerKind := rfl
@[simp] theorem countCycle_nalign : (countCycle s).nalign = s.nalign := rfl
@[simp] theorem countCycle_ew : (countCycle s).ew = s.ew := rfl
@[simp] theorem countCycle_cmdPort : (countCycle s).cmdPort = s.cmdPort := rfl
@[simp] theorem countCycle_program : (countCycle s).program = s.program := rfl
@[simp] theorem countCycle_now : (countCycle s).now = s.now := rfl
@[simp] theorem countCycle_later : (countCycle s).later = s.later := rfl
@[simp] theorem countCycle_trace : (countCycle s).trace = s.trace := rfl
@[simp] theorem countCycle_cycle : (countCycle s).cycle = s.cycle + 1 := rfl

/-! ### clockEdge -/

@[simp] theorem clockEdge_seq : (clockEdge s).seq = s.seq := by simp [clockEdge]
@[simp] theorem clockEdge_txSr : (clockEdge s).txSr = s.txSr := by simp [clockEdge]
@[simp] theorem clockEdge_txCnt : (clockEdge s).txCnt = s.txCnt := by simp [clockEdge]
@[simp] theorem clockEdge_rxSr : (clockEdge s).rxSr = s.rxSr := by simp [clockEdge]
@[simp] theorem clockEdge_rxCnt : (clockEdge s).rxCnt = s.rxCnt := by simp [clockEdge]
@[simp] theorem clockEdge_dlyCnt : (clockEdge s).dlyCnt = s.dlyCnt := by simp [clockEdge]
@[simp] theorem clockEdge_out : (clockEdge s).out = s.out := by simp [clockEdge]
@[simp] theorem clockEdge_txLine : (clockEdge s).txLine = s.txLine := by simp [clockEdge]
@[simp] theorem clockEdge_period : (clockEdge s).period = s.period := by simp [clockEdge]
@[simp] theorem clockEdge_timerKind : (clockEdge s).timerKind = s.timerKind := by simp [clockEdge]
@[simp] theorem clockEdge_nalign : (clockEdge s).nalign = s.nalign := by simp [clockEdge]
@[simp] theorem clockEdge_ew : (clockEdge s).ew = s.ew := by simp [clockEdge]
@[simp] theorem clockEdge_later : (clockEdge s).later = s.later.tail := by simp [clockEdge]
@[simp] theorem clockEdge_trace : (clockEdge s).trace = s.trace := by simp [clockEdge]
@[simp] theorem clockEdge_cycle : (clockEdge s).cycle = s.cycle + 1 := by simp [clockEdge]
@[simp] theorem clockEdge_tCnt : (clockEdge s).tCnt = (timerCount s).tCnt := by simp [clockEdge]
@[simp] theorem clockEdge_tFlag : (clockEdge s).tFlag = (timerCount s).tFlag := by simp [clockEdge]

@[simp] theorem clockEdge_now :
    (clockEdge s).now = s.later.headD (PortIn.free (s.cycle + 1)) := rfl

/-! ### What the other agents do, case by case -/

variable {s}

theorem timerCount_of_reset (h : s.out.tmrReset = true) : timerCount s = s := by
  simp [timerCount, h]

theorem timerCount_of_boundary (h : s.out.tmrReset = false) (hc : s.tCnt = s.period - 1) :
    timerCount s = { s with tCnt := 0, tFlag := true } := by
  simp [timerCount, h, hc]

theorem timerCount_of_count (h : s.out.tmrReset = false) (hc : s.tCnt ≠ s.period - 1) :
    timerCount s = { s with tCnt := s.tCnt + 1 } := by
  simp [timerCount, h, hc]

theorem clockEdge_cmdPort_of_held (h : s.cmdPort ≠ none) : (clockEdge s).cmdPort = s.cmdPort := by
  cases hc : s.cmdPort with
  | none => exact absurd hc h
  | some w => simp [clockEdge, countCycle, nextInputs, hostNext, timerCount, hc]

theorem clockEdge_cmdPort_of_busy (h : s.seq ≠ .idle) : (clockEdge s).cmdPort = s.cmdPort := by
  simp [clockEdge, countCycle, nextInputs, hostNext, timerCount, State.cmdReady, State.busy, h]

theorem clockEdge_program_of_busy (h : s.seq ≠ .idle) : (clockEdge s).program = s.program := by
  simp [clockEdge, countCycle, nextInputs, hostNext, timerCount, State.cmdReady, State.busy, h]

theorem clockEdge_presents {w : Option CmdWord} {ws : List (Option CmdWord)}
    (hc : s.cmdPort = none) (hi : s.seq = .idle) (hp : s.program = w :: ws) :
    (clockEdge s).cmdPort = w ∧ (clockEdge s).program = ws := by
  simp [clockEdge, countCycle, nextInputs, hostNext, timerCount, State.cmdReady, State.busy, hc, hi,
    hp]

/-! ### The collaborators' answers -/

theorem pollAnswer_contract (h : s.timerKind = .contract) :
    s.pollAnswer = if s.tFlag then .elapsed else .notYet := by
  simp [State.pollAnswer, h]

theorem pollAnswer_free (h : s.timerKind = .free) :
    s.pollAnswer = if s.now.tmrElapsed then .elapsed else .notYet := by
  simp [State.pollAnswer, h]

theorem pinSetAnswer_ok (h : s.now.txpErr = false) : s.pinSetAnswer = .ok := by
  simp [State.pinSetAnswer, h]

theorem pinSetAnswer_err (h : s.now.txpErr = true) :
    s.pinSetAnswer = .err (portErr s.ew s.now.txpEcode) := by
  simp [State.pinSetAnswer, h]

theorem pinGetAnswer_ok (h : s.now.rxpErr = false) : s.pinGetAnswer = .ok s.now.rxpLevel := by
  simp [State.pinGetAnswer, h]

theorem pinGetAnswer_err (h : s.now.rxpErr = true) :
    s.pinGetAnswer = .err (portErr s.ew s.now.rxpEcode) := by
  simp [State.pinGetAnswer, h]

theorem portErr_lt (ew : Nat) (e : ErrCode) : portErr ew e < 2 ^ ew :=
  Nat.mod_lt _ (Nat.two_pow_pos ew)

/-! ### The fields of the response, result by result -/

@[simp] theorem statusOf_okUnit : statusOf .okUnit = 0b00#2 := rfl
@[simp] theorem statusOf_okByte (b : Byte) : statusOf (.okByte b) = 0b00#2 := rfl
@[simp] theorem statusOf_errBus (e : ErrCode) : statusOf (.errBus e) = 0b01#2 := rfl
@[simp] theorem statusOf_errInvalidInterrupt : statusOf .errInvalidInterrupt = 0b10#2 := rfl
@[simp] theorem rspDataOf_okUnit : rspDataOf .okUnit = 0x00#8 := rfl
@[simp] theorem rspDataOf_okByte (b : Byte) : rspDataOf (.okByte b) = b := rfl
@[simp] theorem rspDataOf_errBus (e : ErrCode) : rspDataOf (.errBus e) = 0x00#8 := rfl
@[simp] theorem rspDataOf_errInvalidInterrupt : rspDataOf .errInvalidInterrupt = 0x00#8 := rfl
@[simp] theorem rspErrOf_okUnit : rspErrOf .okUnit = 0 := rfl
@[simp] theorem rspErrOf_okByte (b : Byte) : rspErrOf (.okByte b) = 0 := rfl
@[simp] theorem rspErrOf_errBus (e : ErrCode) : rspErrOf (.errBus e) = e := rfl
@[simp] theorem rspErrOf_errInvalidInterrupt : rspErrOf .errInvalidInterrupt = 0 := rfl

@[simp] theorem raise_eq_finish (x : Result) (s : State) : raise x s = finish x s := rfl

end Sys2Proof.Machine
end

