-- ==== Sys2Proof/Laws/Step.lean ====
section
/-!
SUPPORT. What a step can do, said once: inversion lemmas for clocked, step, exec and seqStep. Later
proofs cite these and unfold none of the four.
-/

namespace Sys2Proof.Machine

variable {s t u : State}

/-! ### clocked, step -/

@[simp] theorem clocked_next (s : State) : clocked (.next s) = .next (clockEdge s) := rfl

theorem clocked_eq_next {o : Host.Outcome State Fault Refusal} (h : clocked o = .next t) :
    ∃ u, o = .next u ∧ t = clockEdge u := by
  cases o with
  | next u => exact ⟨u, rfl, by simpa using h.symm⟩
  | fault f => cases h
  | refused r => cases h

/-- A step that answers a next state is a reset cycle, a step of the sequencer, or a step of exec,
followed by the clock edge. -/
theorem step_cases (h : step s = .next t) :
    ∃ u, t = clockEdge u ∧
      ((s.now.rstN = false ∧ u = resetBlock s) ∨
       (s.now.rstN = true ∧ s.cmdPort = none ∧ seqStep s = .next u) ∨
       (∃ w, s.now.rstN = true ∧ s.cmdPort = some w ∧ exec (decode w) s = .next u)) := by
  unfold step at h
  split at h
  · rename_i hr
    split at h
    · rename_i w hw
      obtain ⟨u, hu, rfl⟩ := clocked_eq_next h
      exact ⟨u, rfl, .inr (.inr ⟨w, hr, hw, hu⟩)⟩
    · rename_i hw
      obtain ⟨u, hu, rfl⟩ := clocked_eq_next h
      exact ⟨u, rfl, .inr (.inl ⟨hr, hw, hu⟩)⟩
  · rename_i hr
    obtain ⟨u, hu, rfl⟩ := clocked_eq_next h
    cases hu
    exact ⟨_, rfl, .inl ⟨by simpa using hr, rfl⟩⟩

theorem step_in_reset (h : s.now.rstN = false) : step s = .next (clockEdge (resetBlock s)) := by
  simp [step, h]

theorem step_nothing_presented (h : s.now.rstN = true) (hw : s.cmdPort = none) :
    step s = clocked (seqStep s) := by
  simp [step, h, hw]

theorem step_presented {w : CmdWord} (h : s.now.rstN = true) (hw : s.cmdPort = some w) :
    step s = clocked (exec (decode w) s) := by
  simp [step, h, hw]

/-! ### exec -/

theorem busy_eq_true : s.busy = true ↔ s.seq ≠ .idle := by simp [State.busy]

theorem busy_eq_false : s.busy = false ↔ s.seq = .idle := by simp [State.busy]

theorem whenReady_idle {f : State → State} (h : s.seq = .idle) : whenReady f s = .next (f s) := by
  simp [whenReady, busy_eq_false.2 h]

theorem whenReady_busy {f : State → State} (h : s.seq ≠ .idle) : whenReady f s = seqStep s := by
  simp [whenReady, busy_eq_true.2 h]

/-- A next state of exec: a busy block takes its own step, an idle one accepts the command. -/
theorem exec_cases {i : Instr} (h : exec i s = .next t) :
    (s.seq ≠ .idle ∧ seqStep s = .next t) ∨
    (s.seq = .idle ∧
      ((∃ b, i = .write b ∧
          t = { accept (.write b) s with txSr := b, txCnt := 0#4, seq := .txStart }) ∨
       (∃ d, i = .flush d ∧ t = finish .okUnit (accept .flush s)) ∨
       (∃ d, i = .read d ∧ t = { accept .read s with rxSr := 0#8, rxCnt := 0#4, seq := .rxCheck }))) := by
  by_cases hi : s.seq = .idle
  · refine .inr ⟨hi, ?_⟩
    cases i with
    | write b =>
      simp only [exec, execWrite, whenReady_idle hi] at h
      exact .inl ⟨b, rfl, by cases h; rfl⟩
    | flush d =>
      simp only [exec, execFlush, whenReady_idle hi] at h
      exact .inr (.inl ⟨d, rfl, by cases h; rfl⟩)
    | read d =>
      simp only [exec, execRead, whenReady_idle hi] at h
      exact .inr (.inr ⟨d, rfl, by cases h; rfl⟩)
    | reserved11 d => cases h
  · refine .inl ⟨hi, ?_⟩
    cases i with
    | write b => simpa only [exec, execWrite, whenReady_busy hi] using h
    | flush d => simpa only [exec, execFlush, whenReady_busy hi] using h
    | read d => simpa only [exec, execRead, whenReady_busy hi] using h
    | reserved11 d => cases h

/-- A command presented to a busy block is not looked at. -/
theorem exec_busy {i : Instr} (hw : WellFormed i = true) (hb : s.seq ≠ .idle) :
    exec i s = seqStep s := by
  cases i with
  | write b => simp only [exec, execWrite, whenReady_busy hb]
  | flush d => simp only [exec, execFlush, whenReady_busy hb]
  | read d => simp only [exec, execRead, whenReady_busy hb]
  | reserved11 d => cases hw

/-! ### seqStep -/

/-- The rows of the step tables R97, R111 and R131: what one sequencer step makes of `s`. -/
inductive SeqRow (s : State) : State → Prop
  | idle (h : s.seq = .idle) : SeqRow s (quiet s)
  | notYet (h : s.seq = .txWaitStart ∨ s.seq = .txWaitData ∨ s.seq = .txWaitStop ∨
      s.seq = .rxWaitStart ∨ s.seq = .rxWaitData ∨ s.seq = .rxWaitStop)
      (ha : s.pollAnswer = .notYet) : SeqRow s (timerPoll s)
  | txStart (h : s.seq = .txStart) (ha : s.pinSetAnswer = .ok) :
      SeqRow s { pinSet .low s with seq := .txTreset }
  | txStartErr (e : ErrCode) (h : s.seq = .txStart) (ha : s.pinSetAnswer = .err e) :
      SeqRow s (finish (.errBus e) (pinSet .low s))
  | txTresetSkip (h : s.seq = .txTreset) (hn : s.nalign = 0#3) :
      SeqRow s { timerReset s with dlyCnt := 0#3, seq := .txWaitStart }
  | txTreset (h : s.seq = .txTreset) (hn : s.nalign ≠ 0#3) :
      SeqRow s { timerReset s with dlyCnt := s.nalign, seq := .txAlign }
  | txAlignLast (h : s.seq = .txAlign) (hd : s.dlyCnt = 1#3) :
      SeqRow s { nopCycle s with dlyCnt := 0#3, seq := .txWaitStart }
  | txAlign (h : s.seq = .txAlign) (h0 : s.dlyCnt ≠ 0#3) (h1 : s.dlyCnt ≠ 1#3) :
      SeqRow s { nopCycle s with dlyCnt := s.dlyCnt - 1#3, seq := .txAlign }
  | txWaitStart (h : s.seq = .txWaitStart) (ha : s.pollAnswer = .elapsed) :
      SeqRow s { timerPoll s with seq := .txData }
  | txData (h : s.seq = .txData) (ha : s.pinSetAnswer = .ok) :
      SeqRow s { pinSet (lowBitLevel s.txSr) s with txSr := shiftOut s.txSr, seq := .txWaitData }
  | txDataErr (e : ErrCode) (h : s.seq = .txData) (ha : s.pinSetAnswer = .err e) :
      SeqRow s (finish (.errBus e) (pinSet (lowBitLevel s.txSr) s))
  | txWaitData (h : s.seq = .txWaitData) (ha : s.pollAnswer = .elapsed) (hc : s.txCnt < 7#4) :
      SeqRow s { timerPoll s with txCnt := s.txCnt + 1#4, seq := .txData }
  | txWaitDataLast (h : s.seq = .txWaitData) (ha : s.pollAnswer = .elapsed) (hc : s.txCnt = 7#4) :
      SeqRow s { timerPoll s with txCnt := 8#4, seq := .txStop }
  | txStop (h : s.seq = .txStop) (ha : s.pinSetAnswer = .ok) :
      SeqRow s { pinSet .high s with seq := .txWaitStop }
  | txStopErr (e : ErrCode) (h : s.seq = .txStop) (ha : s.pinSetAnswer = .err e) :
      SeqRow s (finish (.errBus e) (pinSet .high s))
  | txWaitStop (h : s.seq = .txWaitStop) (ha : s.pollAnswer = .elapsed) :
      SeqRow s (finish .okUnit (timerPoll s))
  | rxCheckErr (e : ErrCode) (h : s.seq = .rxCheck) (ha : s.pinGetAnswer = .err e) :
      SeqRow s (finish (.errBus e) (pinGet s))
  | rxCheckHigh (h : s.seq = .rxCheck) (ha : s.pinGetAnswer = .ok .high) :
      SeqRow s (finish .errInvalidInterrupt (pinGet s))
  | rxCheckLow (h : s.seq = .rxCheck) (ha : s.pinGetAnswer = .ok .low) :
      SeqRow s { pinGet s with seq := .rxTreset }
  | rxTresetSkip (h : s.seq = .rxTreset) (hn : s.nalign = 0#3) :
      SeqRow s { timerReset s with dlyCnt := 0#3, seq := .rxWaitStart }
  | rxTreset (h : s.seq = .rxTreset) (hn : s.nalign ≠ 0#3) :
      SeqRow s { timerReset s with dlyCnt := s.nalign, seq := .rxAlign }
  | rxAlignLast (h : s.seq = .rxAlign) (hd : s.dlyCnt = 1#3) :
      SeqRow s { nopCycle s with dlyCnt := 0#3, seq := .rxWaitStart }
  | rxAlign (h : s.seq = .rxAlign) (h0 : s.dlyCnt ≠ 0#3) (h1 : s.dlyCnt ≠ 1#3) :
      SeqRow s { nopCycle s with dlyCnt := s.dlyCnt - 1#3, seq := .rxAlign }
  | rxWaitStart (h : s.seq = .rxWaitStart) (ha : s.pollAnswer = .elapsed) :
      SeqRow s { timerPoll s with seq := .rxData }
  | rxData (v : Level) (h : s.seq = .rxData) (ha : s.pinGetAnswer = .ok v) :
      SeqRow s { pinGet s with rxSr := shiftIn v s.rxSr, seq := .rxWaitData }
  | rxDataErr (e : ErrCode) (h : s.seq = .rxData) (ha : s.pinGetAnswer = .err e) :
      SeqRow s (finish (.errBus e) { pinGet s with rxSr := shiftOut s.rxSr })
  | rxWaitData (h : s.seq = .rxWaitData) (ha : s.pollAnswer = .elapsed) (hc : s.rxCnt < 7#4) :
      SeqRow s { timerPoll s with rxCnt := s.rxCnt + 1#4, seq := .rxData }
  | rxWaitDataLast (h : s.seq = .rxWaitData) (ha : s.pollAnswer = .elapsed) (hc : s.rxCnt = 7#4) :
      SeqRow s { timerPoll s with rxCnt := 8#4, seq := .rxWaitStop }
  | rxWaitStop (h : s.seq = .rxWaitStop) (ha : s.pollAnswer = .elapsed) :
      SeqRow s (finish (.okByte s.rxSr) (timerPoll s))

theorem waitStep_notYet {f : State → Host.Outcome State Fault Refusal}
    (h : s.pollAnswer = .notYet) : waitStep f s = .next (timerPoll s) := by
  simp [waitStep, h]

theorem waitStep_elapsed {f : State → Host.Outcome State Fault Refusal}
    (h : s.pollAnswer = .elapsed) : waitStep f s = f (timerPoll s) := by
  simp [waitStep, h]

theorem driveStep_ok {v : Level} {f : State → State} (h : s.pinSetAnswer = .ok) :
    driveStep v f s = .next (f (pinSet v s)) := by
  simp [driveStep, h]

theorem driveStep_err {v : Level} {f : State → State} {e : ErrCode}
    (h : s.pinSetAnswer = .err e) :
    driveStep v f s = .next (finish (.errBus e) (pinSet v s)) := by
  simp [driveStep, h]

/-- The wait states split by the timer's answer. -/
theorem waitStep_cases {f : State → Host.Outcome State Fault Refusal}
    (h : waitStep f s = .next t) :
    (s.pollAnswer = .notYet ∧ t = timerPoll s) ∨
    (s.pollAnswer = .elapsed ∧ f (timerPoll s) = .next t) := by
  cases ha : s.pollAnswer with
  | notYet => rw [waitStep_notYet ha] at h; cases h; exact .inl ⟨rfl, rfl⟩
  | elapsed => rw [waitStep_elapsed ha] at h; exact .inr ⟨rfl, h⟩

/-- The drive states split by the output pin's answer. -/
theorem driveStep_cases {v : Level} {f : State → State} (h : driveStep v f s = .next t) :
    (s.pinSetAnswer = .ok ∧ t = f (pinSet v s)) ∨
    (∃ e, s.pinSetAnswer = .err e ∧ t = finish (.errBus e) (pinSet v s)) := by
  cases ha : s.pinSetAnswer with
  | ok => rw [driveStep_ok ha] at h; cases h; exact .inl ⟨rfl, rfl⟩
  | err e => rw [driveStep_err ha] at h; cases h; exact .inr ⟨e, rfl, rfl⟩

/-- Everything a sequencer step can do: its next state is that of a row of the step tables. -/
theorem seqStep_row (h : seqStep s = .next t) : SeqRow s t := by
  unfold seqStep at h
  split at h <;> rename_i hq
  · cases h; exact .idle hq
  · obtain ⟨ha, rfl⟩ | ⟨e, ha, rfl⟩ := driveStep_cases h
    · exact .txStart hq ha
    · exact .txStartErr e hq ha
  · simp only [tresetStep] at h
    split at h <;> cases h
    · exact .txTresetSkip hq ‹_›
    · exact .txTreset hq ‹_›
  · simp only [alignStep] at h
    split at h
    · cases h
    · split at h <;> cases h
      · exact .txAlignLast hq ‹_›
      · exact .txAlign hq ‹_› ‹_›
  · obtain ⟨ha, rfl⟩ | ⟨ha, hf⟩ := waitStep_cases h
    · exact .notYet (by simp [hq]) ha
    · cases hf; exact .txWaitStart hq ha
  · obtain ⟨ha, rfl⟩ | ⟨e, ha, rfl⟩ := driveStep_cases h
    · exact .txData hq ha
    · exact .txDataErr e hq ha
  · obtain ⟨ha, rfl⟩ | ⟨ha, hf⟩ := waitStep_cases h
    · exact .notYet (by simp [hq]) ha
    · split at hf
      · cases hf; exact .txWaitData hq ha ‹_›
      · split at hf <;> cases hf
        exact .txWaitDataLast hq ha ‹_›
  · obtain ⟨ha, rfl⟩ | ⟨e, ha, rfl⟩ := driveStep_cases h
    · exact .txStop hq ha
    · exact .txStopErr e hq ha
  · obtain ⟨ha, rfl⟩ | ⟨ha, hf⟩ := waitStep_cases h
    · exact .notYet (by simp [hq]) ha
    · cases hf; exact .txWaitStop hq ha
  · simp only [rxCheckStep] at h
    split at h <;> cases h
    · exact .rxCheckErr _ hq ‹_›
    · exact .rxCheckHigh hq ‹_›
    · exact .rxCheckLow hq ‹_›
  · simp only [tresetStep] at h
    split at h <;> cases h
    · exact .rxTresetSkip hq ‹_›
    · exact .rxTreset hq ‹_›
  · simp only [alignStep] at h
    split at h
    · cases h
    · split at h <;> cases h
      · exact .rxAlignLast hq ‹_›
      · exact .rxAlign hq ‹_› ‹_›
  · obtain ⟨ha, rfl⟩ | ⟨ha, hf⟩ := waitStep_cases h
    · exact .notYet (by simp [hq]) ha
    · cases hf; exact .rxWaitStart hq ha
  · simp only [rxDataStep] at h
    split at h <;> cases h
    · exact .rxDataErr _ hq ‹_›
    · exact .rxData _ hq ‹_›
  · obtain ⟨ha, rfl⟩ | ⟨ha, hf⟩ := waitStep_cases h
    · exact .notYet (by simp [hq]) ha
    · split at hf
      · cases hf; exact .rxWaitData hq ha ‹_›
      · split at hf <;> cases hf
        exact .rxWaitDataLast hq ha ‹_›
  · obtain ⟨ha, rfl⟩ | ⟨ha, hf⟩ := waitStep_cases h
    · exact .notYet (by simp [hq]) ha
    · cases hf; exact .rxWaitStop hq ha

/-- The other direction: in the state of a row the sequencer takes that row. -/
theorem seqStep_of_row (h : SeqRow s t) : seqStep s = .next t := by
  cases h with
  | notYet h ha =>
    rcases h with h | h | h | h | h | h <;>
      simp [seqStep, h, waitStartStep, txWaitDataStep, txWaitStopStep, rxWaitDataStep,
        rxWaitStopStep, waitStep_notYet ha]
  | rxData v h ha => cases v <;> simp [seqStep, rxDataStep, h, ha]
  | _ =>
    simp_all [seqStep, txStartStep, txDataStep, txStopStep, tresetStep, alignStep, waitStartStep,
      txWaitDataStep, txWaitStopStep, rxCheckStep, rxDataStep, rxWaitDataStep, rxWaitStopStep,
      waitStep, driveStep]

end Sys2Proof.Machine
end

