-- ==== Sys2Proof/Tests/Slice0.lean ====
section
/-!
SUPPORT. The model's own tests: expected results from the spec (the vector or rule is named), and for
every statement with hypotheses a witness that meets them.
-/

namespace Sys2Proof.Tests

open Sys2Proof.Machine

/-! ### Small states -/

/-- Inputs of a cycle in which nothing fails, the line is `v` and the timer port answers `e`. -/
def inputs (v : Level) (e : Bool) : PortIn :=
  { rstN := true, txpErr := false, txpEcode := 9, rxpLevel := v, rxpErr := false, rxpEcode := 6,
    tmrElapsed := e }

/-- The inputs of a cycle in which both pins fail. -/
def failing : PortIn := { inputs .low true with txpErr := true, rxpErr := true }

/-- An idle block with `NALIGN = 0`, `EW = 4`, period 2, a timer driven from the port, and the given
inputs in the cycles to come. -/
def idleWith (ins : List PortIn) : State :=
  { seq := .idle, txSr := 0x5A#8, txCnt := 3#4, rxSr := 0xA5#8, rxCnt := 4#4, dlyCnt := 2#3,
    out := PortOut.quiet, txLine := .high, tCnt := 0, tFlag := true, period := 2,
    timerKind := .free, nalign := 0#3, ew := 4, cmdPort := none, program := [],
    now := ins.headD (inputs .low true), later := ins.tail, trace := [], cycle := 0 }

/-- Thirty calm cycles with the receive line at `v`. -/
def calm (v : Level) : List PortIn := List.replicate 30 (inputs v true)

/-- The idle block with the word `w` on its command port. -/
def presenting (w : CmdWord) (ins : List PortIn) : State :=
  { idleWith ins with cmdPort := some w }

/-- The block in the state `q` of a running command. -/
def running (q : Seq) (ins : List PortIn) : State := { idleWith ins with seq := q }

/-- The same state with the reference timer of R98. -/
def timed (s : State) : State := { s with timerKind := .contract }

/-- Whether an outcome is a next state. -/
def isNext : Host.Outcome State Fault Refusal → Bool
  | .next _ => true
  | .fault _ => false
  | .refused _ => false

/-- The next state of an outcome. -/
def nextOf (o : Host.Outcome State Fault Refusal) (s : State) : State :=
  match o with
  | .next t => t
  | .fault _ => s
  | .refused _ => s

theorem next_of_isNext {o : Host.Outcome State Fault Refusal} (s : State) (h : isNext o = true) :
    o = .next (nextOf o s) := by
  cases o with
  | next t => rfl
  | fault f => cases h
  | refused r => cases h

/-- `n` cycles from `s`. -/
def after (n : Nat) (s : State) : State := nextOf (run n s) s

theorem answered_of (n : Nat) {s : State} {c : Command} {mid : List Event} {r : Result}
    (h : isNext (run n s) = true)
    (ht : (after n s).trace = s.trace ++ (.cmd c :: mid ++ [.rsp r])) (hi : inner mid = true) :
    Answered s c mid r :=
  ⟨n, after n s, next_of_isNext s h, ht, hi⟩

/-! ### Words -/

/-- R82, D7: a word of the reserved code is the one ill-formed instruction. -/
theorem test_reserved_is_ill_formed : WellFormed (.reserved11 0x00#8) = false := by decide

/-- R79: the three commands are well-formed, whatever their data field. -/
theorem test_commands_are_well_formed :
    WellFormed (.write 0xFF#8) = true ∧ WellFormed (.flush 0xA5#8) = true ∧
      WellFormed (.read 0xFF#8) = true := by decide

/-- R79, V1: `0b00_10110010` is WRITE `0xB2`. -/
theorem test_decode_write : decode 0b0010110010#10 = .write 0xB2#8 := by decide

/-- R79, V5: `0b01_10100101` is FLUSH with a data field that is ignored. -/
theorem test_decode_flush : decode 0b0110100101#10 = .flush 0xA5#8 := by decide

/-- R79, V7: `0b10_11111111` is READ with a data field that is ignored. -/
theorem test_decode_read : decode 0b1011111111#10 = .read 0xFF#8 := by decide

/-- R82, V8: `0b11_00000000` is no command. -/
theorem test_decode_reserved : decode 0b1100000000#10 = .reserved11 0x00#8 := by decide

/-- R84: the words of the canonical commands. -/
theorem test_encode : encode (.write 0x3C#8) = 0b0000111100#10 ∧
    encode (.flush 0x00#8) = 0b0100000000#10 ∧ encode (.read 0x00#8) = 0b1000000000#10 := by decide

/-- R85: there is no 11-bit command word. -/
theorem test_eleven_bits_are_rejected :
    decodeTableWord 16 0x400 = none ∧ decodeTableWord 16 0x2FF = some (.read 0xFF#8) ∧
      decodeNat 0x400 = .error .notACommandWord ∧ decodeNat 0x3FF = .ok (.reserved11 0xFF#8) := by
  decide

/-- R80, R81: `{rsp_status, rsp_data, rsp_err}` with `EW = 4`, written out by hand. -/
theorem test_result_words :
    resultWord 4 .okUnit = 0b00000000000000#14 ∧
      resultWord 4 (.okByte 0xB2#8) = 0b00101100100000#14 ∧
      resultWord 4 (.errBus 9) = 0b01000000001001#14 ∧
      resultWord 4 .errInvalidInterrupt = 0b10000000000000#14 := by decide

/-! ### One step each -/

/-- R111: the acceptance of WRITE `0xB2`. -/
theorem test_write_accepted :
    let t := after 1 (presenting 0x0B2#10 (calm .low))
    t.seq = .txStart ∧ t.txSr = 0xB2#8 ∧ t.txCnt = 0#4 ∧ t.cmdPort = none ∧
      t.out = PortOut.quiet := by decide

/-- V35: a failing start drive ends the WRITE; the registers keep their values. -/
theorem test_write_start_fails :
    let s := { running .txStart [{ inputs .low true with txpErr := true }] with txSr := 0xB2#8 }
    let t := after 1 s
    t.seq = .idle ∧ t.txSr = 0xB2#8 ∧ t.out.txpReq = true ∧ t.out.rspStatus = 0b01#2 ∧
      t.out.rspErr = 9 ∧ t.trace = [.txSet .low (.err 9), .rsp (.errBus 9)] := by decide

/-- V31: data bit 1 of `0xB2` is HIGH and `tx_sr` goes from `0x59` to `0x2C`. -/
theorem test_write_data_bit :
    let t := after 1 { running .txData (calm .low) with txSr := 0x59#8, txCnt := 1#4 }
    t.txSr = 0x2C#8 ∧ t.txLine = .high ∧ t.out.txpLevel = true ∧ t.seq = .txWaitData := by decide

/-- R111: after the eighth data cell comes the stop bit. -/
theorem test_write_last_wait :
    let t := after 1 { running .txWaitData (calm .low) with txCnt := 7#4 }
    t.txCnt = 8#4 ∧ t.seq = .txStop := by decide

/-- V40: FLUSH answers in the cycle of its acceptance and changes no register. -/
theorem test_flush :
    let t := after 1 (presenting 0x1A5#10 (calm .low))
    t.trace = [.cmd .flush, .rsp .okUnit] ∧ t.txSr = 0x5A#8 ∧ t.rxCnt = 4#4 ∧
      t.out = { PortOut.quiet with rspValid := true } := by decide

/-- R192, V70: a FLUSH presented to a busy block waits, and the running wait goes on. -/
theorem test_flush_waits :
    let t := after 1 { running .txWaitStop [inputs .low false] with cmdPort := some 0x100#10 }
    t.cmdPort = some 0x100#10 ∧ t.seq = .txWaitStop ∧ t.trace = [.poll .notYet] := by decide

/-- V45: a READ of a HIGH line. -/
theorem test_read_high :
    let t := after 1 (running .rxCheck [inputs .high true])
    t.trace = [.rxGet (.ok .high), .rsp .errInvalidInterrupt] ∧ t.seq = .idle ∧
      t.out.rspStatus = 0b10#2 ∧ t.tFlag = true := by decide

/-- R136: a HIGH sample enters at bit 7 after the shift: `0x59` becomes `0xAC`. -/
theorem test_read_sample :
    let t := after 1 { running .rxData (calm .high) with rxSr := 0x59#8 }
    t.rxSr = 0xAC#8 ∧ t.seq = .rxWaitData := by decide

/-- R80, R151: the payload of a failed read is on `rsp_err`, and `ERR_INVALID_INTERRUPT` has none. -/
theorem test_error_payload :
    (after 1 (running .rxData [failing])).out.rspErr = 6 ∧
      (after 1 (running .rxCheck [inputs .high true])).out.rspErr = 0 := by decide

/-- R82: the reserved code is refused, also by a busy block. -/
theorem test_reserved_is_refused :
    step { running .rxWaitStop (calm .low) with cmdPort := some 0x3FF#10 } =
      .refused .reservedCommand := by rfl

/-- V26, cycle 12 (`P = 4`): the poll sees the old flag, the boundary of the same cycle sets it. -/
theorem test_timer_boundary_and_poll :
    let t := after 1
      { timed (running .txWaitStart (calm .low)) with period := 4, tCnt := 3, tFlag := true }
    t.tCnt = 0 ∧ t.tFlag = true ∧ t.trace = [.poll .elapsed] := by decide

/-- V26, cycle 0 (`P = 4`): `TimerReset()` clears a stale count and a stale flag. -/
theorem test_timer_reset :
    let t := after 1
      { timed (running .txTreset (calm .low)) with period := 4, tCnt := 2, tFlag := true }
    t.tCnt = 0 ∧ t.tFlag = false ∧ t.out = { PortOut.quiet with tmrReset := true } := by decide

/-- R195: reset in the middle of a WRITE drops it; the line keeps its level. -/
theorem test_reset_aborts :
    let s := { running .txData [{ inputs .low true with rstN := false }] with txLine := .low }
    let t := after 1 s
    t.seq = .idle ∧ t.txSr = 0x00#8 ∧ t.trace = [] ∧ t.txLine = .low ∧ t.out = PortOut.quiet := by
  decide

/-- R84: the host presents its next line after the answer, not before. -/
theorem test_host_presents_next :
    let s := { running .txWaitStop (calm .low) with program := [some 0x200#10] }
    (after 1 s).cmdPort = some 0x200#10 ∧
      (after 1 { s with seq := .txStart }).cmdPort = none := by decide

/-- A word placed in a table row's bits runs as the very next step. -/
theorem test_fetch_word_runs :
    (after 1 (State.reset.withFetchWord 16 0x0B2)).seq = .txStart ∧
      (after 1 (State.reset.withFetchWord 16 0x200)).seq = .rxCheck := by decide

/-! ### Whole commands, small -/

/-- R112: the events between `Cmd(WRITE 0xB2)` and `Rsp(OK_UNIT)`, with `NALIGN = 0` and no `NOT_YET`. -/
def writeMid : List Event :=
  [.txSet .low .ok, .tReset, .poll .elapsed, .txSet .low .ok, .poll .elapsed, .txSet .high .ok,
   .poll .elapsed, .txSet .low .ok, .poll .elapsed, .txSet .low .ok, .poll .elapsed,
   .txSet .high .ok, .poll .elapsed, .txSet .high .ok, .poll .elapsed, .txSet .low .ok,
   .poll .elapsed, .txSet .high .ok, .poll .elapsed, .txSet .high .ok, .poll .elapsed]

/-- R138: the events between `Cmd(READ)` and `Rsp(OK_BYTE(0x00))` on a line held LOW. -/
def readMid : List Event :=
  [.rxGet (.ok .low), .tReset, .poll .elapsed, .rxGet (.ok .low), .poll .elapsed,
   .rxGet (.ok .low), .poll .elapsed, .rxGet (.ok .low), .poll .elapsed,
   .rxGet (.ok .low), .poll .elapsed, .rxGet (.ok .low), .poll .elapsed,
   .rxGet (.ok .low), .poll .elapsed, .rxGet (.ok .low), .poll .elapsed,
   .rxGet (.ok .low), .poll .elapsed, .poll .elapsed]

/-- The same for a WRITE of `0x00`. -/
def writeZeroMid : List Event :=
  [.txSet .low .ok, .tReset, .poll .elapsed, .txSet .low .ok, .poll .elapsed, .txSet .low .ok,
   .poll .elapsed, .txSet .low .ok, .poll .elapsed, .txSet .low .ok, .poll .elapsed,
   .txSet .low .ok, .poll .elapsed, .txSet .low .ok, .poll .elapsed, .txSet .low .ok,
   .poll .elapsed, .txSet .low .ok, .poll .elapsed, .txSet .high .ok, .poll .elapsed]

theorem write_answered :
    Answered (presenting 0x0B2#10 (calm .low)) (.write 0xB2#8) writeMid .okUnit :=
  answered_of 23 (by decide) (by decide) (by decide)

theorem write_zero_answered :
    Answered (presenting 0x000#10 (calm .low)) (.write 0x00#8) writeZeroMid .okUnit :=
  answered_of 23 (by decide) (by decide) (by decide)

theorem read_answered :
    Answered (presenting 0x200#10 (calm .low)) .read readMid (.okByte 0x00#8) :=
  answered_of 22 (by decide) (by decide) (by decide)

/-! ### Witnesses: for every statement with hypotheses, states that meet them

Each is named after its statement; where the statement has several clauses, each clause has its state,
at a boundary of its range where it has one. -/

/-- The inputs of a cycle in reset. -/
def inReset : PortIn := { inputs .low true with rstN := false }

theorem witness_MatchAndMaskChooseTheRow :
    0x0FF#10 &&& 0x300#10 = 0x000#10 ∧ 0x100#10 &&& 0x300#10 = 0x100#10 ∧
      0x2FF#10 &&& 0x300#10 = 0x200#10 ∧ 0x300#10 &&& 0x300#10 = 0x300#10 := by decide

theorem witness_DecodeAndEncodeAgree :
    decodeNat 0x1FF = .ok (.flush 0xFF#8) ∧ 0x1FF = (encode (.flush 0xFF#8)).toNat := by decide

theorem witness_OnlyTenBitWordsAreCommands :
    decodeNat 0x400 = .error .notACommandWord ∧ 2 ^ 10 ≤ 0x400 ∧
      decodeTableWord 11 0x400 = none ∧ 2 ^ 10 ≤ 0x400 % 2 ^ 11 := by decide

theorem witness_ResponseWordFields :
    rspErrOf (.errBus 15) < 2 ^ 4 ∧ rspErrOf .okUnit < 2 ^ 0 ∧ rspErrOf (.okByte 0xFF#8) < 2 ^ 0 ∧
      rspErrOf .errInvalidInterrupt < 2 ^ 0 := by decide

theorem witness_StepRunsThePresentedInstruction :
    let s := presenting 0x1A5#10 (calm .low)
    let f := { running .txAlign (calm .low) with dlyCnt := 0#3, cmdPort := some 0x1A5#10 }
    let r := presenting 0x300#10 (calm .low)
    (s.now.rstN = true ∧ s.cmdPort = some 0x1A5#10 ∧ decode 0x1A5#10 = .flush 0xA5#8 ∧
      isNext (exec (.flush 0xA5#8) s) = true) ∧
    (f.now.rstN = true ∧ f.cmdPort = some 0x1A5#10 ∧
      exec (.flush 0xA5#8) f = .fault (.noTableRow .txAlign)) ∧
    (r.now.rstN = true ∧ r.cmdPort = some 0x300#10 ∧ decode 0x300#10 = .reserved11 0x00#8 ∧
      exec (.reserved11 0x00#8) r = .refused .reservedCommand) :=
  ⟨by decide, ⟨rfl, rfl, rfl⟩, ⟨rfl, rfl, rfl, rfl⟩⟩

theorem witness_StepWithNothingPresented :
    let s := running .txStart (calm .low)
    let f := { running .rxAlign (calm .low) with dlyCnt := 0#3 }
    let i := idleWith (calm .low)
    (s.now.rstN = true ∧ s.cmdPort = none ∧ isNext (seqStep s) = true) ∧
    (f.now.rstN = true ∧ f.cmdPort = none ∧ seqStep f = .fault (.noTableRow .rxAlign)) ∧
    (i.now.rstN = true ∧ i.cmdPort = none ∧ i.seq = .idle) :=
  ⟨by decide, ⟨rfl, rfl, rfl⟩, ⟨rfl, rfl, rfl⟩⟩

theorem witness_ClockEdgeMovesTheOtherAgents :
    let s := { idleWith [inputs .low true] with program := [some 0x100#10] }
    (s.later = [] ∧ s.cmdPort = none ∧ s.seq = .idle ∧ s.program = some 0x100#10 :: []) ∧
    (idleWith [failing, inReset]).later = inReset :: [] ∧
    (presenting 0x200#10 (calm .low)).cmdPort ≠ none ∧
    (running .txStart (calm .low)).seq ≠ .idle ∧ (idleWith (calm .low)).program = [] := by decide

theorem witness_ResetAbortsTheCommand :
    let s := { running .rxData [inReset] with cmdPort := some 0x100#10, tCnt := 1 }
    (s.now.rstN = false ∧ s.cmdPort ≠ none ∧ s.tCnt = s.period - 1) ∧
      ({ s with tCnt := 0 } : State).tCnt ≠ s.period - 1 := by decide

theorem witness_WriteIsAccepted : (idleWith (calm .low)).seq = .idle := by decide

theorem witness_FlushAnswersAtOnce :
    (0x1FF#10).extractLsb' 8 2 = 0b01#2 ∧ (idleWith (calm .low)).seq = .idle := by decide

theorem witness_ReadIsAccepted : (idleWith (calm .high)).seq = .idle := by decide

theorem witness_ReservedCodeIsRefused :
    let s := { running .txData (calm .low) with cmdPort := some 0x3FF#10 }
    s.now.rstN = true ∧ s.cmdPort = some 0x3FF#10 ∧ (0x3FF#10).extractLsb' 8 2 = 0b11#2 := by decide

theorem witness_OnlyIllFormedWordsAreRefused :
    exec (.reserved11 0xFF#8) (running .txData (calm .low)) = .refused .reservedCommand ∧
      WellFormed (.reserved11 0xFF#8) = false := ⟨rfl, rfl⟩

theorem witness_CommandWaitsWhileBusy :
    let s := { running .txWaitStop (calm .low) with cmdPort := some 0x2FF#10 }
    s.now.rstN = true ∧ s.seq ≠ .idle ∧ s.cmdPort = some 0x2FF#10 ∧
      WellFormed (decode 0x2FF#10) = true ∧ isNext (step s) = true := by decide

theorem witness_AcceptanceTakesThePresentedWord :
    let w := presenting 0x0B2#10 (calm .low)
    let f := presenting 0x1A5#10 (calm .low)
    let r := presenting 0x2FF#10 (calm .low)
    (isNext (step w) = true ∧ .cmd (.write 0xB2#8) ∈ newEvents w (after 1 w)) ∧
    (isNext (step f) = true ∧ .cmd .flush ∈ newEvents f (after 1 f) ∧ f.program = []) ∧
    (let g := { f with program := [none, some 0x000#10] }
     isNext (step g) = true ∧ .cmd .flush ∈ newEvents g (after 1 g) ∧
       g.program = none :: [some 0x000#10]) ∧
    (isNext (step r) = true ∧ .cmd .read ∈ newEvents r (after 1 r)) := by decide

/-- A state of a running command with the values the rows of the step tables look at. -/
def rowState (q : Seq) (i : PortIn) (na d : BitVec 3) (c : BitVec 4) : State :=
  { running q [i] with nalign := na, dlyCnt := d, txCnt := c, rxCnt := c }

/-- The rows of the tables R97, R111 and R131 are met in every state of the sequencer: `NOT_YET`,
`ELAPSED`, and each answer of each pin. -/
theorem witness_answers (q : Seq) (na d : BitVec 3) (c : BitVec 4) :
    (rowState q (inputs .low false) na d c).seq = q ∧
    (rowState q (inputs .low false) na d c).pollAnswer = .notYet ∧
    (rowState q (inputs .low true) na d c).pollAnswer = .elapsed ∧
    (rowState q (inputs .low true) na d c).pinSetAnswer = .ok ∧
    (rowState q failing na d c).pinSetAnswer = .err 9 ∧
    (rowState q (inputs .low true) na d c).pinGetAnswer = .ok .low ∧
    (rowState q (inputs .high true) na d c).pinGetAnswer = .ok .high ∧
    (rowState q failing na d c).pinGetAnswer = .err 6 :=
  ⟨rfl, rfl, rfl, rfl, rfl, rfl, rfl, rfl⟩

theorem witness_TimingStepTable :
    let s := rowState .txTreset (inputs .low true) 1#3 0#3 0#4
    (s.seq = .txTreset ∧ 0#3 < s.nalign) ∧
    (let s := rowState .txTreset (inputs .low true) 0#3 0#3 0#4; s.seq = .txTreset ∧ s.nalign = 0#3) ∧
    (let s := rowState .txAlign (inputs .low true) 7#3 2#3 0#4; s.seq = .txAlign ∧ 1#3 < s.dlyCnt) ∧
    (let s := rowState .txAlign (inputs .low true) 7#3 1#3 0#4; s.seq = .txAlign ∧ s.dlyCnt = 1#3) ∧
    (let s := rowState .rxTreset (inputs .low true) 1#3 0#3 0#4; s.seq = .rxTreset ∧ 0#3 < s.nalign) ∧
    (let s := rowState .rxTreset (inputs .low true) 0#3 0#3 0#4; s.seq = .rxTreset ∧ s.nalign = 0#3) ∧
    (let s := rowState .rxAlign (inputs .low true) 7#3 7#3 0#4; s.seq = .rxAlign ∧ 1#3 < s.dlyCnt) ∧
    (let s := rowState .rxAlign (inputs .low true) 7#3 1#3 0#4; s.seq = .rxAlign ∧ s.dlyCnt = 1#3) ∧
    (let s := rowState .rxWaitStop (inputs .low true) 7#3 1#3 8#4
     s.seq.isWait = true ∧ s.seq.isTiming = true ∧ s.pollAnswer = .elapsed ∧
       isNext (seqStep s) = true) ∧
    (let s := rowState .txWaitStart (inputs .low false) 7#3 1#3 8#4
     s.seq.isWait = true ∧ s.seq = .txWaitStart ∧ s.pollAnswer = .notYet) := by decide

theorem witness_WriteStepTable :
    (let s := rowState .txWaitData (inputs .low true) 5#3 0#3 6#4
     s.seq = .txWaitData ∧ s.pollAnswer = .elapsed ∧ s.txCnt < 7#4) ∧
    (let s := rowState .txWaitData (inputs .low true) 5#3 0#3 7#4
     s.seq = .txWaitData ∧ s.pollAnswer = .elapsed ∧ s.txCnt = 7#4) ∧
    (let s := rowState .txAlign (inputs .low true) 5#3 1#3 0#4
     s.seq = .txAlign ∧ 1#3 ≤ s.dlyCnt) ∧
    (let s := rowState .txStop failing 5#3 0#3 8#4
     s.seq = .txStop ∧ s.pinSetAnswer = .err 9) ∧
    (let s := rowState .txStop (inputs .low true) 5#3 0#3 8#4
     s.seq = .txStop ∧ s.pinSetAnswer = .ok) := by decide

theorem witness_ReadStepTable :
    (let s := rowState .rxWaitData (inputs .low true) 5#3 0#3 6#4
     s.seq = .rxWaitData ∧ s.pollAnswer = .elapsed ∧ s.rxCnt < 7#4) ∧
    (let s := rowState .rxWaitData (inputs .low true) 5#3 0#3 7#4
     s.seq = .rxWaitData ∧ s.pollAnswer = .elapsed ∧ s.rxCnt = 7#4) ∧
    (let s := rowState .rxAlign (inputs .low true) 5#3 1#3 0#4
     s.seq = .rxAlign ∧ 1#3 ≤ s.dlyCnt) ∧
    (let s := rowState .rxData failing 5#3 0#3 0#4
     s.seq = .rxData ∧ s.pinGetAnswer = .err 6) ∧
    (let s := rowState .rxData (inputs .high true) 5#3 0#3 0#4
     s.seq = .rxData ∧ s.pinGetAnswer = .ok .high) := by decide

theorem witness_StatesWithoutATableRowFault :
    (let s := rowState .txAlign (inputs .low true) 5#3 0#3 0#4; s.seq = .txAlign ∧ s.dlyCnt = 0#3) ∧
    (let s := rowState .txWaitData (inputs .low true) 5#3 0#3 8#4
     s.seq = .txWaitData ∧ s.pollAnswer = .elapsed ∧ 7#4 < s.txCnt) ∧
    (let s := rowState .rxWaitData (inputs .low true) 5#3 0#3 15#4
     s.seq = .rxWaitData ∧ s.pollAnswer = .elapsed ∧ 7#4 < s.rxCnt) := by decide

theorem witness_OperationsAtThePorts :
    (idleWith [inputs .low true]).now.txpErr = false ∧ (idleWith [failing]).now.txpErr = true ∧
    (idleWith [inputs .low true]).now.rxpErr = false ∧ (idleWith [failing]).now.rxpErr = true ∧
    (idleWith [inputs .low true]).timerKind = .free ∧
    (idleWith [inputs .low true]).now.tmrElapsed = true ∧
    (idleWith [inputs .low false]).now.tmrElapsed = false ∧
    (timed (idleWith [inputs .low true])).timerKind = .contract := by decide

theorem witness_TransmitLineFollowsTheDrives :
    (let s := running .txStop [inputs .low true]
     isNext (step s) = true ∧ (after 1 s).out.txpReq = true ∧ s.pinSetAnswer = .ok) ∧
    (let s := running .txStop [failing]
     isNext (step s) = true ∧ (after 1 s).out.txpReq = true ∧ s.pinSetAnswer = .err 9) ∧
    (let s := running .rxData [failing]
     isNext (step s) = true ∧ (after 1 s).out.txpReq = false) := by decide

theorem witness_ErrorSources :
    isNext (seqStep (running .txData [failing])) = true ∧
    isNext (seqStep (running .rxCheck [inputs .high true])) = true ∧
    (idleWith (calm .high)).seq = .idle ∧
    isNext (exec (.flush 0x00#8) (idleWith (calm .high))) = true := by decide

theorem witness_TimerContract :
    (let s := timed (running .txWaitStart [inputs .low true])
     s.timerKind = .contract ∧ isNext (step s) = true ∧ (after 1 s).out.tmrPoll = true ∧
       .poll .elapsed ∈ newEvents s (after 1 s) ∧ s.tCnt < s.period) ∧
    (let s := timed (running .txTreset [inputs .low true])
     s.timerKind = .contract ∧ isNext (step s) = true ∧ (after 1 s).out.tmrReset = true) := by decide

theorem witness_AcceptanceFrame :
    let s := idleWith (calm .low)
    s.seq = .idle ∧ isNext (exec (.write 0xFF#8) s) = true ∧ isNext (exec (.flush 0xFF#8) s) = true ∧
      isNext (exec (.read 0xFF#8) s) = true := by decide

theorem witness_TransmitStepFrame :
    (let s := running .txStart (calm .low)
     s.seq.isTx = true ∧ isNext (seqStep s) = true ∧ s.seq ≠ .txData ∧ s.seq ≠ .txWaitData ∧
       s.seq ≠ .txTreset ∧ s.seq ≠ .txAlign ∧ s.seq.isWait = false) ∧
    (let s := running .txWaitStop (calm .low)
     s.seq.isTx = true ∧ isNext (seqStep s) = true ∧ s.seq ≠ .txStart ∧ s.seq ≠ .txData ∧
       s.seq ≠ .txStop) := by decide

theorem witness_ReceiveStepFrame :
    let s := running .rxCheck (calm .low)
    s.seq.isRx = true ∧ isNext (seqStep s) = true ∧ s.seq ≠ .rxData ∧ s.seq ≠ .rxWaitData ∧
      s.seq ≠ .rxTreset ∧ s.seq ≠ .rxAlign ∧ s.seq.isWait = false := by decide

theorem witness_ParametersNeverChange : isNext (step (running .txStart (calm .low))) = true := by
  decide

theorem witness_StepKeepsTheInvariant :
    Inv { running .rxData (calm .low) with rxSr := 0x80#8, rxCnt := 1#4 } ∧
    Inv { running .txData (calm .low) with txSr := 0x01#8, txCnt := 7#4 } ∧
    isNext (step { running .txData (calm .low) with txSr := 0x01#8, txCnt := 7#4 }) = true :=
  ⟨⟨by decide, by decide, by decide⟩, ⟨by decide, by decide, by decide⟩, by decide⟩

theorem witness_InvariantStatesStep :
    let s := { running .txStop (calm .low) with
      txSr := 0x00#8, txCnt := 8#4, cmdPort := some 0x2FF#10 }
    Inv s ∧ s.now.rstN = true ∧ s.cmdPort = some 0x2FF#10 ∧ WellFormed (decode 0x2FF#10) = true :=
  ⟨⟨by decide, by decide, by decide⟩, rfl, rfl, rfl⟩

theorem witness_OneResponsePerCommand :
    let s := presenting 0x100#10 (calm .low)
    s.now.rstN = true ∧ isNext (step s) = true := by decide

theorem witness_TraceAndTransmitLineAreNotRead :
    isNext (step (running .txData (calm .low))) = true := by decide

theorem witness_DataRegistersAreDeadInIdle :
    let s := presenting 0x0B2#10 (calm .low)
    s.seq = .idle ∧ isNext (run 23 s) = true := by decide

theorem witness_WriteIgnoresTheReceivePort :
    let s := running .txData (calm .low)
    s.seq.isRx = false ∧ isNext (seqStep s) = true := by decide

theorem witness_StalledTimerHangs :
    let s := { running .txWaitStop [inputs .low false, inputs .high false] with
      cmdPort := some 0x1A5#10 }
    s.seq.isWait = true ∧ Stalled 2 s ∧ s.cmdPort = some 0x1A5#10 ∧
      WellFormed (decode 0x1A5#10) = true :=
  ⟨rfl, ⟨rfl, by decide, by decide⟩, rfl, rfl⟩

/-- A FLUSH that is answered. -/
theorem flush_answered :
    Answered (presenting 0x1A5#10 (calm .low)) .flush [] .okUnit :=
  answered_of 1 (by decide) (by decide) (by decide)

/-- A WRITE that fails at its start bit. -/
theorem write_failed :
    Answered (presenting 0x0B2#10 [inputs .low true, failing]) (.write 0xB2#8)
      [.txSet .low (.err 9)] (.errBus 9) :=
  answered_of 2 (by decide) (by decide) (by decide)

/-- A READ of a HIGH line. -/
theorem read_refused :
    Answered (presenting 0x200#10 (calm .high)) .read [.rxGet (.ok .high)] .errInvalidInterrupt :=
  answered_of 2 (by decide) (by decide) (by decide)

/-- A READ whose first data sample fails. -/
theorem read_failed :
    Answered
      (presenting 0x200#10
        [inputs .low true, inputs .low true, inputs .low true, inputs .low true, failing])
      .read [.rxGet (.ok .low), .tReset, .poll .elapsed, .rxGet (.err 6)] (.errBus 6) :=
  answered_of 5 (by decide) (by decide) (by decide)

theorem witness_ResultsOfEachCommand :
    Answered (presenting 0x0B2#10 (calm .low)) (.write 0xB2#8) writeMid .okUnit ∧
    Answered (presenting 0x1A5#10 (calm .low)) .flush [] .okUnit ∧
    Answered (presenting 0x200#10 (calm .low)) .read readMid (.okByte 0x00#8) :=
  ⟨write_answered, flush_answered, read_answered⟩

theorem witness_WriteSuccessTrace :
    Answered (presenting 0x0B2#10 (calm .low)) (.write 0xB2#8) writeMid .okUnit ∧
      writeMid.all (fun e => !e.isPinFailure) = true :=
  ⟨write_answered, by decide⟩

theorem witness_WriteFailureTrace :
    Answered (presenting 0x0B2#10 [inputs .low true, failing]) (.write 0xB2#8)
      [.txSet .low (.err 9)] (.errBus 9) ∧ Result.errBus 9 ≠ .okUnit :=
  ⟨write_failed, by decide⟩

theorem witness_ReadSuccessTrace :
    Answered (presenting 0x200#10 (calm .low)) .read readMid (.okByte 0x00#8) := read_answered

theorem witness_ReadFailureTrace :
    (Answered (presenting 0x200#10 (calm .high)) .read [.rxGet (.ok .high)] .errInvalidInterrupt ∧
      ∀ b, Result.errInvalidInterrupt ≠ .okByte b) ∧
    (Answered
      (presenting 0x200#10
        [inputs .low true, inputs .low true, inputs .low true, inputs .low true, failing])
      .read [.rxGet (.ok .low), .tReset, .poll .elapsed, .rxGet (.err 6)] (.errBus 6) ∧
      ∀ b, Result.errBus 6 ≠ .okByte b) :=
  ⟨⟨read_refused, nofun⟩, ⟨read_failed, nofun⟩⟩

theorem witness_RoundTripLaw :
    Answered (presenting 0x000#10 (calm .low)) (.write 0x00#8) writeZeroMid .okUnit ∧
    Answered (presenting 0x200#10 (calm .low)) .read readMid (.okByte 0x00#8) ∧
    levelsRead readMid = (levelsDriven writeZeroMid).take 9 :=
  ⟨write_zero_answered, read_answered, by decide⟩

theorem witness_PacingLaw :
    Answered (presenting 0x0B2#10 (calm .low)) (.write 0xB2#8) writeMid .okUnit := write_answered

theorem witness_ReadChecksTheLineFirst :
    (let s := presenting 0x2FF#10 [inputs .low true, inputs .high true]
     Presents s (.read 0xFF#8) ∧ s.later = inputs .high true :: [] ∧ (inputs .high true).rstN = true ∧
       (inputs .high true).rxpErr = false ∧ (inputs .high true).rxpLevel = .high) ∧
    (let s := presenting 0x2FF#10 [inputs .low true, failing]
     Presents s (.read 0xFF#8) ∧ s.later = failing :: [] ∧ failing.rstN = true ∧
       failing.rxpErr = true) ∧
    (let s := presenting 0x2FF#10 [inputs .low true, inputs .low true]
     Presents s (.read 0xFF#8) ∧ s.later = inputs .low true :: [] ∧
       (inputs .low true).rxpErr = false ∧ (inputs .low true).rxpLevel = .low) :=
  ⟨⟨⟨rfl, rfl, rfl⟩, rfl, rfl, rfl, rfl⟩, ⟨⟨rfl, rfl, rfl⟩, rfl, rfl, rfl⟩,
    ⟨⟨rfl, rfl, rfl⟩, rfl, rfl, rfl⟩⟩

/-- The hypotheses shared by `WriteCycleCounts` and `WriteHoldsEachCell`, with `P = 2`, `NALIGN = 0`. -/
theorem witness_WriteCycleCounts :
    let s := timed (presenting 0x0B2#10 (calm .low))
    Presents s (.write 0xB2#8) ∧ s.timerKind = .contract ∧ s.nalign.toNat ≤ s.period ∧
      2 ≤ s.period ∧ Calm (4 + 10 * s.period) s :=
  ⟨⟨rfl, rfl, rfl⟩, rfl, by decide, by decide, by decide, by decide⟩

theorem witness_WriteHoldsEachCell :
    let s := timed (presenting 0x0B2#10 (calm .low))
    Presents s (.write 0xB2#8) ∧ s.timerKind = .contract ∧ s.nalign.toNat ≤ s.period ∧
      2 ≤ s.period ∧ Calm (4 + 10 * s.period) s ∧ 4 + 8 * s.period ≤ 21 ∧ 21 < 4 + 9 * s.period ∧
      4 + 9 * s.period ≤ 22 ∧ 22 < 4 + 10 * s.period :=
  ⟨⟨rfl, rfl, rfl⟩, rfl, by decide, by decide, ⟨by decide, by decide⟩, by decide, by decide,
    by decide, by decide⟩

theorem witness_ReadCycleCounts :
    let s := timed (presenting 0x2FF#10 (calm .low))
    Presents s (.read 0xFF#8) ∧ s.timerKind = .contract ∧ s.nalign.toNat ≤ s.period ∧
      2 ≤ s.period ∧ Calm (4 + 10 * s.period) s ∧
      ∀ p, s.later.head? = some p → p.rxpLevel = .low :=
  ⟨⟨rfl, rfl, rfl⟩, rfl, by decide, by decide, ⟨by decide, by decide⟩, by
    intro p hp
    have hq : some (inputs .low true) = some p := hp
    cases hq
    rfl⟩

theorem witness_ReadAnswersTheSampledByte :
    let s := timed (presenting 0x2FF#10 (calm .low))
    Presents s (.read 0xFF#8) ∧ s.timerKind = .contract ∧ s.nalign.toNat ≤ s.period ∧
      2 ≤ s.period ∧ Calm (4 + 10 * s.period) s ∧
      (∀ p, s.later.head? = some p → p.rxpLevel = .low) ∧
      (s.now :: s.later)[4 + (7 + 1) * s.period]? = some (inputs .low true) :=
  ⟨witness_ReadCycleCounts.1, rfl, by decide, by decide, ⟨by decide, by decide⟩,
    witness_ReadCycleCounts.2.2.2.2.2, by decide⟩

theorem witness_WriteIsAnsweredForEveryPeriod :
    let s := { timed (presenting 0x0B2#10 (List.replicate 40 (inputs .low true))) with period := 1 }
    Presents s (.write 0xB2#8) ∧ s.timerKind = .contract ∧ 1 ≤ s.period ∧
      Calm (s.nalign.toNat + 10 * s.period + 24) s :=
  ⟨⟨rfl, rfl, rfl⟩, rfl, by decide, by decide, by decide⟩

theorem witness_ReadIsAnsweredForEveryPeriod :
    let s := { timed (presenting 0x2FF#10 (List.replicate 40 (inputs .low true))) with
      period := 1, nalign := 5#3 }
    Presents s (.read 0xFF#8) ∧ s.timerKind = .contract ∧ 1 ≤ s.period ∧
      Calm (s.nalign.toNat + 10 * s.period + 24) s ∧
      ∀ p, s.later.head? = some p → p.rxpLevel = .low :=
  ⟨⟨rfl, rfl, rfl⟩, rfl, by decide, ⟨by decide, by decide⟩, by
    intro p hp
    have hq : some (inputs .low true) = some p := hp
    cases hq
    rfl⟩

end Sys2Proof.Tests
end

section
/-!
SUPPORT. Which events can follow each other in a trace (00_scope.md R11, R12, R60): a monitor that reads
a trace and knows only which command runs, and the proof that every run satisfies it. Settles O40.
-/

namespace Sys2Proof.Machine

/-! ### The monitor -/

/-- Which command the block is carrying out, as far as its state of `seq` tells (R21). No state of `seq`
is `flushing`: FLUSH ends in its acceptance step (R118). -/
inductive Activity where
  | idle
  | transmitting
  | flushing
  | receiving

/-- The activity of a state of `seq`. -/
def Seq.activity (q : Seq) : Activity :=
  if q.isTx then .transmitting else if q.isRx then .receiving else .idle

/-- The activity that the acceptance of a command begins. -/
def commandActivity : Command → Activity
  | .write _ => .transmitting
  | .flush => .flushing
  | .read => .receiving

/-- Whether collaborator operations and no-operation cycles belong to the activity. -/
def Activity.operates : Activity → Prop
  | .transmitting | .receiving => True
  | .idle | .flushing => False

/-- The results with which the activity can end (R11). -/
def Activity.mayAnswer (r : Result) : Activity → Prop
  | .idle => False
  | .transmitting => r = .okUnit ∨ ∃ e, r = .errBus e
  | .flushing => r = .okUnit
  | .receiving => (∃ b, r = .okByte b) ∨ (∃ e, r = .errBus e) ∨ r = .errInvalidInterrupt

/-- The monitor. A `Cmd` may follow anything, for a reset drops a running command without an event
(R195); a `Rsp` and an operation need an activity that allows them. -/
def legalFrom : Activity → List Event → Prop
  | _, [] => True
  | _, .cmd c :: evs => legalFrom (commandActivity c) evs
  | a, .rsp r :: evs => a.mayAnswer r ∧ legalFrom .idle evs
  | a, .txSet _ _ :: evs | a, .rxGet _ :: evs | a, .tReset :: evs | a, .nop :: evs
  | a, .poll _ :: evs => a.operates ∧ legalFrom a evs

@[simp] theorem legalFrom_cmd (a : Activity) (c : Command) (evs : List Event) :
    legalFrom a (.cmd c :: evs) ↔ legalFrom (commandActivity c) evs := by simp [legalFrom]

@[simp] theorem legalFrom_rsp (a : Activity) (r : Result) (evs : List Event) :
    legalFrom a (.rsp r :: evs) ↔ a.mayAnswer r ∧ legalFrom .idle evs := by simp [legalFrom]

/-- An event of no other command is an operation. -/
theorem legalFrom_operation {a : Activity} {e : Event} {evs : List Event} (he : inner [e] = true) :
    legalFrom a (e :: evs) ↔ a.operates ∧ legalFrom a evs := by
  cases e with
  | cmd c => cases he
  | rsp r => cases he
  | _ => simp [legalFrom]

theorem inner_cons {e : Event} {mid : List Event} :
    inner (e :: mid) = true ↔ inner [e] = true ∧ inner mid = true := by simp [inner]

/-- The monitor along events of no other command. -/
theorem legalFrom_inner_append {a : Activity} {rest : List Event} :
    ∀ {mid : List Event}, inner mid = true →
      (legalFrom a (mid ++ rest) ↔ (mid = [] ∨ a.operates) ∧ legalFrom a rest)
  | [], _ => by simp
  | e :: mid, h => by
    obtain ⟨he, hmid⟩ := inner_cons.1 h
    rw [List.cons_append, legalFrom_operation he, legalFrom_inner_append hmid]
    simp only [reduceCtorEq, false_or]
    tauto

/-- What may follow an idle block may follow a dropped command. -/
theorem legalFrom_of_idle {a : Activity} {evs : List Event} (h : legalFrom .idle evs) :
    legalFrom a evs := by
  cases evs with
  | nil => trivial
  | cons e evs =>
    cases e with
    | cmd c => simpa using h
    | _ => exact h.1.elim

/-! ### Every run satisfies the monitor -/

variable {s t u : State}

/-- `t` comes after `s`, and whatever may follow in `t` may follow in `s` after the events between. -/
def ExtendsLegally (s t : State) : Prop :=
  ∃ evs, t.trace = s.trace ++ evs ∧
    ∀ rest, legalFrom t.seq.activity rest → legalFrom s.seq.activity (evs ++ rest)

theorem ExtendsLegally.refl (s : State) : ExtendsLegally s s := ⟨[], by simp, fun _ h => h⟩

theorem ExtendsLegally.trans (h : ExtendsLegally s t) (h' : ExtendsLegally t u) :
    ExtendsLegally s u := by
  obtain ⟨evs, ht, hl⟩ := h
  obtain ⟨evs', hu, hl'⟩ := h'
  exact ⟨evs ++ evs', by rw [hu, ht, List.append_assoc],
    fun rest hr => by rw [List.append_assoc]; exact hl _ (hl' _ hr)⟩

theorem ExtendsLegally.clockEdge (h : ExtendsLegally s t) :
    ExtendsLegally s (Machine.clockEdge t) := by
  simpa [ExtendsLegally] using h

/-- A cycle without an event after which the block is idle. -/
theorem extendsLegally_of_silent (ht : t.trace = s.trace) (hi : t.seq = .idle) :
    ExtendsLegally s t :=
  ⟨[], by simpa using ht, fun _ hr => legalFrom_of_idle (by rwa [hi] at hr)⟩

/-- A cycle of a running command with one operation, after which the command still runs. -/
theorem extendsLegally_of_operation {q : Seq} {e : Event} (hq : s.seq = q)
    (ho : q.activity.operates) (he : inner [e] = true) (ht : t.trace = s.trace ++ [e])
    (ha : t.seq.activity = q.activity) : ExtendsLegally s t :=
  ⟨[e], ht, fun _ hr => by
    rw [hq, legalFrom_inner_append he]
    exact ⟨.inr ho, ha ▸ hr⟩⟩

/-- The last cycle of a running command: one operation and the answer. -/
theorem extendsLegally_of_answer {q : Seq} {e : Event} {r : Result} (hq : s.seq = q)
    (ho : q.activity.operates) (hr : q.activity.mayAnswer r) (he : inner [e] = true)
    (ht : t.trace = s.trace ++ [e]) : ExtendsLegally s (finish r t) :=
  ⟨[e] ++ [.rsp r], by rw [finish_trace, ht, List.append_assoc], fun _ hrest => by
    rw [hq, List.append_assoc, legalFrom_inner_append he]
    exact ⟨.inr ho, (legalFrom_rsp _ _ _).2 ⟨hr, hrest⟩⟩⟩

/-- Every row of the step tables satisfies the monitor. -/
theorem SeqRow.extendsLegally (h : SeqRow s t) : ExtendsLegally s t := by
  cases h with
  | idle h => exact extendsLegally_of_silent rfl h
  | notYet h =>
    rcases h with h | h | h | h | h | h <;>
      exact extendsLegally_of_operation h trivial rfl rfl (congrArg Seq.activity h)
  | txStartErr e h | txDataErr e h | txStopErr e h =>
    exact extendsLegally_of_answer h trivial (.inr ⟨e, rfl⟩) rfl rfl
  | txWaitStop h => exact extendsLegally_of_answer h trivial (.inl rfl) rfl rfl
  | rxCheckErr e h | rxDataErr e h =>
    exact extendsLegally_of_answer h trivial (.inr (.inl ⟨e, rfl⟩)) rfl rfl
  | rxCheckHigh h => exact extendsLegally_of_answer h trivial (.inr (.inr rfl)) rfl rfl
  | rxWaitStop h => exact extendsLegally_of_answer h trivial (.inl ⟨_, rfl⟩) rfl rfl
  | rxData v h => exact extendsLegally_of_operation h trivial rfl rfl rfl
  | _ h => exact extendsLegally_of_operation h trivial rfl rfl rfl

/-- A cycle in which an instruction is presented satisfies the monitor. -/
theorem exec_extendsLegally {i : Instr} (h : exec i s = .next t) : ExtendsLegally s t := by
  obtain ⟨-, hseq⟩ | ⟨-, ⟨b, -, rfl⟩ | ⟨d, -, rfl⟩ | ⟨d, -, rfl⟩⟩ := exec_cases h
  · exact (seqStep_row hseq).extendsLegally
  · exact ⟨[.cmd (.write b)], rfl, fun _ hr => (legalFrom_cmd _ _ _).2 hr⟩
  · exact ⟨[.cmd .flush, .rsp .okUnit], by simp,
      fun _ hr => (legalFrom_cmd _ _ _).2 ((legalFrom_rsp _ _ _).2 ⟨rfl, hr⟩)⟩
  · exact ⟨[.cmd .read], rfl, fun _ hr => (legalFrom_cmd _ _ _).2 hr⟩

theorem step_extendsLegally (h : step s = .next t) : ExtendsLegally s t := by
  obtain ⟨u, rfl, ⟨-, rfl⟩ | ⟨-, -, hseq⟩ | ⟨w, -, -, hexec⟩⟩ := step_cases h
  · exact (extendsLegally_of_silent (s := s) (t := resetBlock s) rfl rfl).clockEdge
  · exact (seqStep_row hseq).extendsLegally.clockEdge
  · exact (exec_extendsLegally hexec).clockEdge

/-- A run of `n + 1` cycles is a step and a run of `n` cycles. -/
theorem run_succ_cases {n : Nat} (h : run (n + 1) s = .next t) :
    ∃ u, step s = .next u ∧ run n u = .next t := by
  rw [run] at h
  split at h
  · exact ⟨_, ‹_›, h⟩
  · cases h
  · cases h

theorem run_extendsLegally {n : Nat} (h : run n s = .next t) : ExtendsLegally s t := by
  induction n generalizing s with
  | zero => cases h; exact .refl _
  | succ n ih =>
    obtain ⟨u, hs, hr⟩ := run_succ_cases h
    exact (step_extendsLegally hs).trans (ih hr)

/-! ### Answered commands -/

/-- The answer of a command is one of its activity's, and operations stand before it only if they
belong to that activity. -/
theorem Answered.mayAnswer {c : Command} {mid : List Event} {r : Result}
    (h : Answered s c mid r) :
    (mid = [] ∨ (commandActivity c).operates) ∧ (commandActivity c).mayAnswer r := by
  obtain ⟨n, t, hrun, htrace, hinner⟩ := h
  obtain ⟨evs, hevs, hlegal⟩ := run_extendsLegally hrun
  obtain rfl : .cmd c :: mid ++ [.rsp r] = evs := List.append_cancel_left (htrace.symm.trans hevs)
  have hmon : legalFrom (commandActivity c) (mid ++ [.rsp r]) := by
    simpa using hlegal [] (by trivial)
  obtain ⟨hmid, hrsp⟩ := (legalFrom_inner_append hinner).1 hmon
  exact ⟨hmid, ((legalFrom_rsp _ _ _).1 hrsp).1⟩

/-- Settles O40: every run satisfies the monitor, which ties each result to the command before it. -/
theorem resultsOfEachCommand : Obligations.ResultsOfEachCommand := by
  intro s c mid r h
  obtain ⟨hmid, hr⟩ := h.mayAnswer
  refine ⟨?_, ?_, ?_⟩
  · rintro b rfl
    exact hr
  · rintro rfl
    exact ⟨hr, hmid.resolve_right id⟩
  · rintro rfl
    exact hr

end Sys2Proof.Machine
end

section
/-!
SUPPORT. One cycle of the block before the clock edge, as one relation that is read in both directions,
and what follows from it about the state: the parameters, the transmit line, and what no cycle reads (the
trace, the line, and the data registers where they are dead, 10_state.md R22 to R26, R32). Settles O8, O10,
O23, O30, O36 and O37.
-/

namespace Sys2Proof.Machine

variable {s t u : State}

/-! ### One cycle of the block, both ways -/

/-- What the block makes of `s` in one cycle, before the clock edge: reset, a row of the step tables, or
the acceptance of the presented command. -/
inductive BlockStep (s : State) : State → Prop
  | reset (h : s.now.rstN = false) : BlockStep s (resetBlock s)
  | row {u : State} (hn : s.now.rstN = true)
      (hp : ∀ w, s.cmdPort = some w → WellFormed (decode w) = true ∧ s.seq ≠ .idle)
      (h : SeqRow s u) : BlockStep s u
  | write {w : CmdWord} {b : Byte} (hn : s.now.rstN = true) (hp : s.cmdPort = some w)
      (hw : decode w = .write b) (hi : s.seq = .idle) :
      BlockStep s { accept (.write b) s with txSr := b, txCnt := 0#4, seq := .txStart }
  | flush {w : CmdWord} {d : Byte} (hn : s.now.rstN = true) (hp : s.cmdPort = some w)
      (hw : decode w = .flush d) (hi : s.seq = .idle) :
      BlockStep s (finish .okUnit (accept .flush s))
  | read {w : CmdWord} {d : Byte} (hn : s.now.rstN = true) (hp : s.cmdPort = some w)
      (hw : decode w = .read d) (hi : s.seq = .idle) :
      BlockStep s { accept .read s with rxSr := 0#8, rxCnt := 0#4, seq := .rxCheck }

/-- Only a command of R79 has a next state. -/
theorem wellFormed_of_exec {i : Instr} (h : exec i s = .next t) : WellFormed i = true := by
  cases i with
  | reserved11 d => cases h
  | _ => rfl

theorem blockStep_of_step (h : step s = .next t) : ∃ u, t = clockEdge u ∧ BlockStep s u := by
  obtain ⟨u, rfl, ⟨hn, rfl⟩ | ⟨hn, hp, hseq⟩ | ⟨w, hn, hp, hexec⟩⟩ := step_cases h
  · exact ⟨_, rfl, .reset hn⟩
  · exact ⟨u, rfl, .row hn (by simp [hp]) (seqStep_row hseq)⟩
  · refine ⟨u, rfl, ?_⟩
    obtain ⟨hb, hseq⟩ | ⟨hi, ⟨b, hw, rfl⟩ | ⟨d, hw, rfl⟩ | ⟨d, hw, rfl⟩⟩ := exec_cases hexec
    · refine .row hn (fun v hv => ?_) (seqStep_row hseq)
      obtain rfl : w = v := Option.some.inj (hp.symm.trans hv)
      exact ⟨wellFormed_of_exec hexec, hb⟩
    · exact .write hn hp hw hi
    · exact .flush hn hp hw hi
    · exact .read hn hp hw hi

theorem step_of_blockStep (h : BlockStep s u) : step s = .next (clockEdge u) := by
  cases h with
  | reset hn => exact step_in_reset hn
  | row hn hp h =>
    have hseq := seqStep_of_row h
    cases hw : s.cmdPort with
    | none => rw [step_nothing_presented hn hw, hseq, clocked_next]
    | some w =>
      obtain ⟨hwf, hb⟩ := hp w hw
      rw [step_presented hn hw, exec_busy hwf hb, hseq, clocked_next]
  | write hn hp hw hi =>
    rw [step_presented hn hp, hw, exec, execWrite, whenReady_idle hi, clocked_next]
  | flush hn hp hw hi =>
    rw [step_presented hn hp, hw, exec, execFlush, whenReady_idle hi, clocked_next]
  | read hn hp hw hi =>
    rw [step_presented hn hp, hw, exec, execRead, whenReady_idle hi, clocked_next]

theorem run_succ_of_step {n : Nat} (h : step s = .next u) : run (n + 1) s = run n u := by
  rw [run, h]

/-! ### The data registers are dead in IDLE -/

/-- Values for the five data and count registers (R22 to R26). -/
structure DataRegs where
  txSr : Byte
  txCnt : BitVec 4
  rxSr : Byte
  rxCnt : BitVec 4
  dlyCnt : BitVec 3

/-- `s` with its data and count registers replaced. -/
def State.withData (s : State) (g : DataRegs) : State :=
  { s with txSr := g.txSr, txCnt := g.txCnt, rxSr := g.rxSr, rxCnt := g.rxCnt, dlyCnt := g.dlyCnt }

theorem clockEdge_withData (s : State) (g : DataRegs) :
    clockEdge (s.withData g) = (clockEdge s).withData g := rfl

/-- `g` has the values of `s` in every register that a later row can still read before it is written:
the transmit registers in a WRITE, the receive registers in a READ, the delay count in `X_ALIGN`. -/
structure DataRegs.AgreesOnLive (g : DataRegs) (s : State) : Prop where
  tx : s.seq.isTx = true → g.txSr = s.txSr ∧ g.txCnt = s.txCnt
  rx : s.seq.isRx = true → g.rxSr = s.rxSr ∧ g.rxCnt = s.rxCnt
  dly : s.seq = .txAlign ∨ s.seq = .rxAlign → g.dlyCnt = s.dlyCnt

/-- In `IDLE` none of the five is live. -/
theorem DataRegs.agreesOnLive_of_idle (g : DataRegs) (h : s.seq = .idle) : g.AgreesOnLive s := by
  constructor <;> simp [h, Seq.isTx, Seq.isRx]

theorem DataRegs.AgreesOnLive.clockEdge {g : DataRegs} (h : g.AgreesOnLive s) :
    g.AgreesOnLive (Machine.clockEdge s) := by
  obtain ⟨htx, hrx, hdly⟩ := h
  constructor <;> simpa

theorem isRx_eq_false_of_isTx {q : Seq} (h : q.isTx = true) : q.isRx = false := by
  cases q <;> simp_all [Seq.isTx, Seq.isRx]

theorem isTx_eq_false_of_isRx {q : Seq} (h : q.isRx = true) : q.isTx = false := by
  cases q <;> simp_all [Seq.isTx, Seq.isRx]

/-- A row of WRITE reads none of the receive registers, and the delay count only in `TX_ALIGN`. -/
theorem SeqRow.ignores_rxRegs_of_tx {r : Byte} {c : BitVec 4} {d : BitVec 3} (h : SeqRow s t)
    (hq : s.seq.isTx = true) (hd : s.seq = .txAlign → d = s.dlyCnt) :
    ∃ d', SeqRow (s.withData ⟨s.txSr, s.txCnt, r, c, d⟩) (t.withData ⟨t.txSr, t.txCnt, r, c, d'⟩) ∧
      t.seq.isRx = false ∧ (t.seq = .txAlign → d' = t.dlyCnt) := by
  cases h with
  | notYet h ha => exact ⟨d, .notYet h ha, isRx_eq_false_of_isTx hq, hd⟩
  | txStart h ha => exact ⟨d, .txStart h ha, rfl, nofun⟩
  | txStartErr e h ha => exact ⟨d, .txStartErr e h ha, rfl, nofun⟩
  | txTresetSkip h hn => exact ⟨_, .txTresetSkip h hn, rfl, nofun⟩
  | txTreset h hn => exact ⟨_, .txTreset h hn, rfl, fun _ => rfl⟩
  | txAlignLast h h1 => obtain rfl := hd h; exact ⟨_, .txAlignLast h h1, rfl, nofun⟩
  | txAlign h h0 h1 => obtain rfl := hd h; exact ⟨_, .txAlign h h0 h1, rfl, fun _ => rfl⟩
  | txWaitStart h ha => exact ⟨d, .txWaitStart h ha, rfl, nofun⟩
  | txData h ha => exact ⟨d, .txData h ha, rfl, nofun⟩
  | txDataErr e h ha => exact ⟨d, .txDataErr e h ha, rfl, nofun⟩
  | txWaitData h ha hc => exact ⟨d, .txWaitData h ha hc, rfl, nofun⟩
  | txWaitDataLast h ha hc => exact ⟨d, .txWaitDataLast h ha hc, rfl, nofun⟩
  | txStop h ha => exact ⟨d, .txStop h ha, rfl, nofun⟩
  | txStopErr e h ha => exact ⟨d, .txStopErr e h ha, rfl, nofun⟩
  | txWaitStop h ha => exact ⟨d, .txWaitStop h ha, rfl, nofun⟩
  | rxCheckErr _ h | rxDataErr _ h | rxData _ h | _ h => simp [h, Seq.isTx] at hq

/-- A row of READ reads none of the transmit registers, and the delay count only in `RX_ALIGN`. -/
theorem SeqRow.ignores_txRegs_of_rx {a : Byte} {b : BitVec 4} {d : BitVec 3} (h : SeqRow s t)
    (hq : s.seq.isRx = true) (hd : s.seq = .rxAlign → d = s.dlyCnt) :
    ∃ d', SeqRow (s.withData ⟨a, b, s.rxSr, s.rxCnt, d⟩) (t.withData ⟨a, b, t.rxSr, t.rxCnt, d'⟩) ∧
      t.seq.isTx = false ∧ (t.seq = .rxAlign → d' = t.dlyCnt) := by
  cases h with
  | notYet h ha => exact ⟨d, .notYet h ha, isTx_eq_false_of_isRx hq, hd⟩
  | rxCheckErr e h ha => exact ⟨d, .rxCheckErr e h ha, rfl, nofun⟩
  | rxCheckHigh h ha => exact ⟨d, .rxCheckHigh h ha, rfl, nofun⟩
  | rxCheckLow h ha => exact ⟨d, .rxCheckLow h ha, rfl, nofun⟩
  | rxTresetSkip h hn => exact ⟨_, .rxTresetSkip h hn, rfl, nofun⟩
  | rxTreset h hn => exact ⟨_, .rxTreset h hn, rfl, fun _ => rfl⟩
  | rxAlignLast h h1 => obtain rfl := hd h; exact ⟨_, .rxAlignLast h h1, rfl, nofun⟩
  | rxAlign h h0 h1 => obtain rfl := hd h; exact ⟨_, .rxAlign h h0 h1, rfl, fun _ => rfl⟩
  | rxWaitStart h ha => exact ⟨d, .rxWaitStart h ha, rfl, nofun⟩
  | rxData v h ha => exact ⟨d, .rxData v h ha, rfl, nofun⟩
  | rxDataErr e h ha => exact ⟨d, .rxDataErr e h ha, rfl, nofun⟩
  | rxWaitData h ha hc => exact ⟨d, .rxWaitData h ha hc, rfl, nofun⟩
  | rxWaitDataLast h ha hc => exact ⟨d, .rxWaitDataLast h ha hc, rfl, nofun⟩
  | rxWaitStop h ha => exact ⟨d, .rxWaitStop h ha, rfl, nofun⟩
  | txStartErr _ h | txDataErr _ h | txStopErr _ h | _ h => simp [h, Seq.isRx] at hq

theorem seq_idle_or_isTx_or_isRx (q : Seq) : q = .idle ∨ q.isTx = true ∨ q.isRx = true := by
  cases q <;> simp [Seq.isTx, Seq.isRx]

/-- In `IDLE` the block does nothing (R167). -/
theorem SeqRow.eq_quiet (h : SeqRow s t) (hi : s.seq = .idle) : t = quiet s := by
  have hseq := seqStep_of_row h
  rw [seqStep, hi] at hseq
  exact (Host.Outcome.next.inj hseq).symm

/-- A row reads no dead register: it answers alike, and the registers live afterwards agree again. -/
theorem SeqRow.withData {g : DataRegs} (h : SeqRow s t) (hg : g.AgreesOnLive s) :
    ∃ g', SeqRow (s.withData g) (t.withData g') ∧ g'.AgreesOnLive t := by
  obtain ⟨a, b, r, c, d⟩ := g
  obtain ⟨htx, hrx, hdly⟩ := hg
  obtain hi | hq | hq := seq_idle_or_isTx_or_isRx s.seq
  · obtain rfl := h.eq_quiet hi
    exact ⟨⟨a, b, r, c, d⟩, .idle hi, DataRegs.agreesOnLive_of_idle _ hi⟩
  · obtain ⟨rfl, rfl⟩ := htx hq
    obtain ⟨d', hrow, hnot, hd'⟩ := h.ignores_rxRegs_of_tx hq fun ha => hdly (.inl ha)
    refine ⟨_, hrow, fun _ => ⟨rfl, rfl⟩, fun hr => ?_, fun ha => ha.elim hd' fun hr => ?_⟩
    · simp [hnot] at hr
    · simp [hr, Seq.isRx] at hnot
  · obtain ⟨rfl, rfl⟩ := hrx hq
    obtain ⟨d', hrow, hnot, hd'⟩ := h.ignores_txRegs_of_rx hq fun ha => hdly (.inr ha)
    refine ⟨_, hrow, fun ht => ?_, fun _ => ⟨rfl, rfl⟩, fun ha => ha.elim (fun ht => ?_) hd'⟩
    · simp [hnot] at ht
    · simp [ht, Seq.isTx] at hnot

theorem BlockStep.withData {g : DataRegs} (h : BlockStep s u) (hg : g.AgreesOnLive s) :
    ∃ g', BlockStep (s.withData g) (u.withData g') ∧ g'.AgreesOnLive u := by
  cases h with
  | reset hn => exact ⟨⟨_, _, _, _, _⟩, .reset hn, DataRegs.agreesOnLive_of_idle _ rfl⟩
  | row hn hp h =>
    obtain ⟨g', hrow, hg'⟩ := h.withData hg
    exact ⟨g', .row hn hp hrow, hg'⟩
  | write hn hp hw hi =>
    exact ⟨⟨_, _, g.rxSr, g.rxCnt, g.dlyCnt⟩, .write hn hp hw hi,
      fun _ => ⟨rfl, rfl⟩, nofun, nofun⟩
  | flush hn hp hw hi => exact ⟨g, .flush hn hp hw hi, DataRegs.agreesOnLive_of_idle _ rfl⟩
  | read hn hp hw hi =>
    exact ⟨⟨g.txSr, g.txCnt, _, _, g.dlyCnt⟩, .read hn hp hw hi,
      nofun, fun _ => ⟨rfl, rfl⟩, nofun⟩

theorem step_withData {g : DataRegs} (h : step s = .next t) (hg : g.AgreesOnLive s) :
    ∃ g', step (s.withData g) = .next (t.withData g') ∧ g'.AgreesOnLive t := by
  obtain ⟨u, rfl, hu⟩ := blockStep_of_step h
  obtain ⟨g', hu', hg'⟩ := hu.withData hg
  exact ⟨g', by rw [step_of_blockStep hu', clockEdge_withData], hg'.clockEdge⟩

theorem run_withData {n : Nat} {g : DataRegs} (h : run n s = .next t) (hg : g.AgreesOnLive s) :
    ∃ g', run n (s.withData g) = .next (t.withData g') := by
  induction n generalizing s g with
  | zero => cases h; exact ⟨g, rfl⟩
  | succ n ih =>
    obtain ⟨u, hs, hr⟩ := run_succ_cases h
    obtain ⟨g₁, hs₁, hg₁⟩ := step_withData hs hg
    rw [run_succ_of_step hs₁]
    exact ih hr hg₁

/-- Settles O37: along the two runs the registers that are live agree, and no row reads another. -/
theorem dataRegistersAreDeadInIdle : Obligations.DataRegistersAreDeadInIdle := by
  intro n s t a r b c d hi hrun
  obtain ⟨g', hrun'⟩ := run_withData hrun (DataRegs.agreesOnLive_of_idle ⟨a, b, r, c, d⟩ hi)
  exact ⟨t.withData g', hrun', rfl, rfl, rfl, rfl⟩

/-! ### The trace and the transmit line are not read -/

/-- `s` with its trace and its transmit line replaced. -/
def State.withObserved (s : State) (tr : List Event) (l : Level) : State :=
  { s with trace := tr, txLine := l }

theorem clockEdge_withObserved (s : State) (tr : List Event) (l : Level) :
    clockEdge (s.withObserved tr l) = (clockEdge s).withObserved tr l := rfl

/-- From `s` to `t` the trace grows, and `R` also relates the two with `tr` and `l` put for the trace and
the line of `s`, and `tr` with the same new events and some level for those of `t`. -/
def Unread (R : State → State → Prop) (s t : State) (tr : List Event) (l : Level) : Prop :=
  ∃ evs l', t.trace = s.trace ++ evs ∧ R (s.withObserved tr l) (t.withObserved (tr ++ evs) l')

variable {tr : List Event} {l : Level}

/-- A cycle without an event and without a drive. -/
theorem unread_of_silent {R : State → State → Prop} (ht : t.trace = s.trace)
    (h : R (s.withObserved tr l) (t.withObserved tr l)) : Unread R s t tr l :=
  ⟨[], l, by simpa using ht, by simpa using h⟩

/-- A cycle with one event before the answer. -/
theorem unread_of_answer {R : State → State → Prop} {e : Event} {r : Result} {l' : Level}
    (ht : t.trace = s.trace ++ [e])
    (h : R (s.withObserved tr l) (finish r (t.withObserved (tr ++ [e]) l'))) :
    Unread R s (finish r t) tr l :=
  ⟨[e] ++ [.rsp r], l', by rw [finish_trace, ht, List.append_assoc],
    by rw [← List.append_assoc]; exact h⟩

theorem SeqRow.unread (h : SeqRow s t) : Unread SeqRow s t tr l := by
  cases h with
  | idle h => exact unread_of_silent rfl (.idle h)
  | notYet h ha => exact ⟨_, _, rfl, .notYet h ha⟩
  | txStart h ha => exact ⟨_, _, rfl, .txStart h ha⟩
  | txStartErr e h ha => exact unread_of_answer rfl (.txStartErr e h ha)
  | txTresetSkip h hn => exact ⟨_, _, rfl, .txTresetSkip h hn⟩
  | txTreset h hn => exact ⟨_, _, rfl, .txTreset h hn⟩
  | txAlignLast h h1 => exact ⟨_, _, rfl, .txAlignLast h h1⟩
  | txAlign h h0 h1 => exact ⟨_, _, rfl, .txAlign h h0 h1⟩
  | txWaitStart h ha => exact ⟨_, _, rfl, .txWaitStart h ha⟩
  | txData h ha => exact ⟨_, _, rfl, .txData h ha⟩
  | txDataErr e h ha => exact unread_of_answer rfl (.txDataErr e h ha)
  | txWaitData h ha hc => exact ⟨_, _, rfl, .txWaitData h ha hc⟩
  | txWaitDataLast h ha hc => exact ⟨_, _, rfl, .txWaitDataLast h ha hc⟩
  | txStop h ha => exact ⟨_, _, rfl, .txStop h ha⟩
  | txStopErr e h ha => exact unread_of_answer rfl (.txStopErr e h ha)
  | txWaitStop h ha => exact unread_of_answer rfl (.txWaitStop h ha)
  | rxCheckErr e h ha => exact unread_of_answer rfl (.rxCheckErr e h ha)
  | rxCheckHigh h ha => exact unread_of_answer rfl (.rxCheckHigh h ha)
  | rxCheckLow h ha => exact ⟨_, _, rfl, .rxCheckLow h ha⟩
  | rxTresetSkip h hn => exact ⟨_, _, rfl, .rxTresetSkip h hn⟩
  | rxTreset h hn => exact ⟨_, _, rfl, .rxTreset h hn⟩
  | rxAlignLast h h1 => exact ⟨_, _, rfl, .rxAlignLast h h1⟩
  | rxAlign h h0 h1 => exact ⟨_, _, rfl, .rxAlign h h0 h1⟩
  | rxWaitStart h ha => exact ⟨_, _, rfl, .rxWaitStart h ha⟩
  | rxData v h ha => exact ⟨_, _, rfl, .rxData v h ha⟩
  | rxDataErr e h ha => exact unread_of_answer rfl (.rxDataErr e h ha)
  | rxWaitData h ha hc => exact ⟨_, _, rfl, .rxWaitData h ha hc⟩
  | rxWaitDataLast h ha hc => exact ⟨_, _, rfl, .rxWaitDataLast h ha hc⟩
  | rxWaitStop h ha => exact unread_of_answer rfl (.rxWaitStop h ha)

theorem BlockStep.unread (h : BlockStep s u) : Unread BlockStep s u tr l := by
  cases h with
  | reset hn => exact unread_of_silent rfl (.reset hn)
  | row hn hp h =>
    obtain ⟨evs, l', ht, hrow⟩ := h.unread (tr := tr) (l := l)
    exact ⟨evs, l', ht, .row hn hp hrow⟩
  | write hn hp hw hi => exact ⟨_, _, rfl, .write hn hp hw hi⟩
  | flush hn hp hw hi => exact unread_of_answer rfl (.flush hn hp hw hi)
  | read hn hp hw hi => exact ⟨_, _, rfl, .read hn hp hw hi⟩

/-- Settles O36: no row and no acceptance reads the trace or the line. -/
theorem traceAndTransmitLineAreNotRead : Obligations.TraceAndTransmitLineAreNotRead := by
  intro s t tr l h
  obtain ⟨u, rfl, hu⟩ := blockStep_of_step h
  obtain ⟨evs, l', ht, hu'⟩ := hu.unread (tr := tr) (l := l)
  have hnew : newEvents s (clockEdge u) = evs := by simp [newEvents, ht]
  have hstep := step_of_blockStep hu'
  rw [clockEdge_withObserved] at hstep
  rw [hnew]
  exact ⟨by rw [clockEdge_trace, ht], l', hstep⟩

/-! ### The parameters -/

theorem SeqRow.parameters (h : SeqRow s t) :
    t.period = s.period ∧ t.timerKind = s.timerKind ∧ t.nalign = s.nalign ∧ t.ew = s.ew := by
  cases h with
  | _ => exact ⟨rfl, rfl, rfl, rfl⟩

theorem BlockStep.parameters (h : BlockStep s u) :
    u.period = s.period ∧ u.timerKind = s.timerKind ∧ u.nalign = s.nalign ∧ u.ew = s.ew := by
  cases h with
  | row _ _ h => exact h.parameters
  | _ => exact ⟨rfl, rfl, rfl, rfl⟩

/-- Settles O30: the block writes none of them, nor does the clock edge. -/
theorem parametersNeverChange : Obligations.ParametersNeverChange := by
  intro s t h
  obtain ⟨u, rfl, hu⟩ := blockStep_of_step h
  simpa using hu.parameters

/-! ### The transmit line -/

/-- Either the cycle requests no drive and the line holds its level, or it is a `PinSet(v)`. -/
def HoldsOrDrives (s t : State) : Prop :=
  (t.out.txpReq = false ∧ t.txLine = s.txLine) ∨
    ∃ v, t.out.txpReq = true ∧ t.out.txpLevel = bitOfLevel v ∧ t.txLine = lineAfterSet v s

theorem SeqRow.holdsOrDrives (h : SeqRow s t) : HoldsOrDrives s t := by
  cases h with
  | txStart | txStartErr | txData | txDataErr | txStop | txStopErr =>
    exact .inr ⟨_, rfl, rfl, rfl⟩
  | _ => exact .inl ⟨rfl, rfl⟩

theorem BlockStep.holdsOrDrives (h : BlockStep s u) : HoldsOrDrives s u := by
  cases h with
  | row _ _ h => exact h.holdsOrDrives
  | _ => exact .inl ⟨rfl, rfl⟩

theorem levelOfBit_bitOfLevel (v : Level) : levelOfBit (bitOfLevel v) = v := by
  cases v <;> rfl

theorem lineAfterSet_of_ok {v : Level} (h : s.pinSetAnswer = .ok) : lineAfterSet v s = v := by
  simp [lineAfterSet, h]

theorem lineAfterSet_of_err {v : Level} {e : ErrCode} (h : s.pinSetAnswer = .err e) :
    lineAfterSet v s = Config.lineAfterFailedSet s.cycle := by
  simp [lineAfterSet, h]

/-- Settles O23: the drive rows set the line as `lineAfterSet` says, and every other cycle holds it. -/
theorem transmitLineFollowsTheDrives : Obligations.TransmitLineFollowsTheDrives := by
  intro s t h
  obtain ⟨u, rfl, hu⟩ := blockStep_of_step h
  rw [clockEdge_out, clockEdge_txLine]
  obtain ⟨hreq, hline⟩ | ⟨v, hreq, hlevel, hline⟩ := hu.holdsOrDrives
  · simp [hreq, hline]
  · refine ⟨by simp [hreq], fun _ hok => ?_, fun e _ herr => ?_⟩
    · rw [hline, hlevel, lineAfterSet_of_ok hok, levelOfBit_bitOfLevel]
    · rw [hline, lineAfterSet_of_err herr]

/-! ### The clock edge and the state after reset -/

theorem clockEdge_cmdPort (s : State) : (clockEdge s).cmdPort =
    if s.cmdPort.isNone && s.cmdReady then s.program.head?.join else s.cmdPort := rfl

theorem clockEdge_program (s : State) : (clockEdge s).program =
    if s.cmdPort.isNone && s.cmdReady then s.program.tail else s.program := rfl

/-- The host waits while a word is on the port or the block is busy, and when it has no line left. -/
theorem clockEdge_host_waits (h : s.cmdPort ≠ none ∨ s.seq ≠ .idle ∨ s.program = []) :
    (clockEdge s).cmdPort = s.cmdPort ∧ (clockEdge s).program = s.program := by
  obtain hc | hb | hp := h
  · simp [clockEdge_cmdPort, clockEdge_program, hc]
  · exact ⟨clockEdge_cmdPort_of_busy hb, clockEdge_program_of_busy hb⟩
  · cases hc : s.cmdPort <;> simp [clockEdge_cmdPort, clockEdge_program, hc, hp]

/-- Settles O8, part by part: the frame, the inputs, the host, the cycle number. -/
theorem clockEdgeMovesTheOtherAgents : Obligations.ClockEdgeMovesTheOtherAgents := by
  intro u
  refine ⟨by simp, fun hl => ?_, fun p ps hl => ?_, fun w ws => clockEdge_presents,
    clockEdge_host_waits, clockEdge_cycle u⟩
  · simp [hl]
  · simp [hl]

/-- Settles O10: `State.reset` is a literal, and these are its fields. -/
theorem resetValues : Obligations.ResetValues :=
  ⟨rfl, rfl, rfl, rfl, rfl, rfl, rfl, rfl, rfl, rfl⟩

end Sys2Proof.Machine
end

section
/-!
SUPPORT. What the block takes from its ports: the word on the command port when it accepts a command
(30_encoding.md R78, R79, 10_state.md R38), and nothing of the receive port while no READ runs
(20_memory.md R50). Settles O17 and O38.
-/

namespace Sys2Proof

/-! ### The word of a decoded instruction -/

theorem opcodeOf_decode (w : CmdWord) : opcodeOf (decode w) = cmdOp w := by
  unfold decode
  split_ifs with h0 h1 h2
  · exact h0.symm
  · exact h1.symm
  · exact h2.symm
  · have others : ∀ o : BitVec 2, o ≠ 0b00#2 → o ≠ 0b01#2 → o ≠ 0b10#2 → 0b11#2 = o := by decide
    exact others _ h0 h1 h2

theorem dataOf_decode (w : CmdWord) : dataOf (decode w) = cmdData w := by
  unfold decode
  split_ifs <;> rfl

/-- The decoder loses no bit of a word (R78). -/
theorem encode_decode (w : CmdWord) : encode (decode w) = w := by
  rw [encode, opcodeOf_decode, dataOf_decode]
  calc cmdOp w ++ cmdData w
      = w.extractLsb' 0 10 := BitVec.extractLsb'_append_extractLsb'_eq_extractLsb' rfl
    _ = w := BitVec.extractLsb'_eq_self

end Sys2Proof

namespace Sys2Proof.Machine

variable {s t u : State}

/-! ### The acceptance of a command -/

/-- From `s` to `t` the trace grows by events none of which is a `Cmd`. -/
def AcceptsNothing (s t : State) : Prop :=
  ∃ evs, t.trace = s.trace ++ evs ∧ ∀ c, .cmd c ∉ evs

theorem acceptsNothing_of_silent (ht : t.trace = s.trace) : AcceptsNothing s t :=
  ⟨[], by simpa using ht, by simp⟩

theorem acceptsNothing_of_event {e : Event} (he : e.isCmd = false)
    (ht : t.trace = s.trace ++ [e]) : AcceptsNothing s t :=
  ⟨[e], ht, fun c hc => by obtain rfl := List.mem_singleton.1 hc; cases he⟩

/-- An answer is no `Cmd`. -/
theorem AcceptsNothing.finish (h : AcceptsNothing s t) (r : Result) :
    AcceptsNothing s (Machine.finish r t) := by
  obtain ⟨evs, ht, hc⟩ := h
  exact ⟨evs ++ [.rsp r], by rw [finish_trace, ht, List.append_assoc], by simpa using hc⟩

/-- No row of the step tables accepts a command. -/
theorem SeqRow.acceptsNothing (h : SeqRow s t) : AcceptsNothing s t := by
  cases h with
  | idle => exact acceptsNothing_of_silent rfl
  | txStartErr | txDataErr | txStopErr | txWaitStop | rxCheckErr | rxCheckHigh | rxDataErr
  | rxWaitStop => exact (acceptsNothing_of_event rfl rfl).finish _
  | _ => exact acceptsNothing_of_event rfl rfl

theorem AcceptsNothing.not_mem_newEvents (h : AcceptsNothing s t) (c : Command) :
    .cmd c ∉ newEvents s t := by
  obtain ⟨evs, ht, hc⟩ := h
  simpa [newEvents, ht] using hc c

@[simp] theorem newEvents_clockEdge (s u : State) : newEvents s (clockEdge u) = newEvents s u := by
  simp [newEvents]

/-- The host presents its next line, if it has one, to a ready block that has emptied the port
(assumption 7). -/
theorem clockEdge_host_after_idle (hc : u.cmdPort = none) (hi : u.seq = .idle) :
    (u.program = [] → (clockEdge u).cmdPort = none ∧ (clockEdge u).program = []) ∧
    ∀ w ws, u.program = w :: ws → (clockEdge u).cmdPort = w ∧ (clockEdge u).program = ws := by
  refine ⟨fun hp => ?_, fun w ws => clockEdge_presents hc hi⟩
  obtain ⟨hport, hprog⟩ := clockEdge_host_waits (.inr (.inr hp))
  exact ⟨hport.trans hc, hprog.trans hp⟩

/-- The host presents nothing to a busy block that has emptied the port. -/
theorem clockEdge_host_after_busy (hc : u.cmdPort = none) (hb : u.seq ≠ .idle) :
    (clockEdge u).cmdPort = none ∧ (clockEdge u).program = u.program :=
  ⟨(clockEdge_cmdPort_of_busy hb).trans hc, clockEdge_program_of_busy hb⟩

/-- The port spells the instruction that the block decodes from it. -/
theorem cmdPort_eq_encode {w : CmdWord} {i : Instr} (hp : s.cmdPort = some w)
    (hw : decode w = i) : s.cmdPort = some (encode i) := by
  rw [hp, ← hw, encode_decode]

/-- Settles O17: of the cycles of a block only the three acceptances add a `Cmd`. -/
theorem acceptanceTakesThePresentedWord : Obligations.AcceptanceTakesThePresentedWord := by
  intro s t c h hmem
  obtain ⟨u, rfl, hu⟩ := blockStep_of_step h
  rw [newEvents_clockEdge] at hmem
  rw [clockEdge_seq]
  cases hu with
  | reset => exact absurd hmem ((acceptsNothing_of_silent rfl).not_mem_newEvents c)
  | row _ _ hrow => exact absurd hmem (hrow.acceptsNothing.not_mem_newEvents c)
  | @write w b hn hp hw hi =>
    obtain rfl : c = .write b := by simpa [newEvents] using hmem
    exact ⟨hn, hi, .inl ⟨b, rfl, cmdPort_eq_encode hp hw, rfl,
      clockEdge_host_after_busy rfl nofun⟩⟩
  | @flush w d hn hp hw hi =>
    obtain rfl : c = .flush := by simpa [newEvents] using hmem
    exact ⟨hn, hi, .inr (.inl ⟨d, rfl, cmdPort_eq_encode hp hw, rfl,
      clockEdge_host_after_idle (u := finish .okUnit (accept .flush s)) rfl rfl⟩)⟩
  | @read w d hn hp hw hi =>
    obtain rfl : c = .read := by simpa [newEvents] using hmem
    exact ⟨hn, hi, .inr (.inr ⟨d, rfl, cmdPort_eq_encode hp hw, rfl,
      clockEdge_host_after_busy rfl nofun⟩)⟩

/-! ### The receive port -/

/-- `s` with the input pin's level, answer and error value of the coming cycle replaced (R38). -/
def State.withRxPort (s : State) (v : Level) (er : Bool) (code : ErrCode) : State :=
  { s with now := { s.now with rxpLevel := v, rxpErr := er, rxpEcode := code } }

/-- Outside the `RX_*` states no row reads the receive port (R50): it answers alike under any. -/
theorem SeqRow.withRxPort (h : SeqRow s t) (hq : s.seq.isRx = false) (v : Level) (er : Bool)
    (code : ErrCode) : SeqRow (s.withRxPort v er code) (t.withRxPort v er code) := by
  cases h with
  | idle h => exact .idle h
  | notYet h ha => exact .notYet h ha
  | txStart h ha => exact .txStart h ha
  | txStartErr e h ha => exact .txStartErr e h ha
  | txTresetSkip h hn => exact .txTresetSkip h hn
  | txTreset h hn => exact .txTreset h hn
  | txAlignLast h h1 => exact .txAlignLast h h1
  | txAlign h h0 h1 => exact .txAlign h h0 h1
  | txWaitStart h ha => exact .txWaitStart h ha
  | txData h ha => exact .txData h ha
  | txDataErr e h ha => exact .txDataErr e h ha
  | txWaitData h ha hc => exact .txWaitData h ha hc
  | txWaitDataLast h ha hc => exact .txWaitDataLast h ha hc
  | txStop h ha => exact .txStop h ha
  | txStopErr e h ha => exact .txStopErr e h ha
  | txWaitStop h ha => exact .txWaitStop h ha
  | rxCheckErr _ h | rxDataErr _ h | rxData _ h | _ h => simp [h, Seq.isRx] at hq

/-- Settles O38: the rows outside READ take their answers from the output pin and the timer alone. -/
theorem writeIgnoresTheReceivePort : Obligations.WriteIgnoresTheReceivePort := by
  intro s t v er e hq h
  exact seqStep_of_row ((seqStep_row h).withRxPort hq v er e)

end Sys2Proof.Machine
end

section
/-!
SUPPORT. The words of the two ports: a command word is its command code beside its data field, and decode and
encode undo each other (30_encoding.md R78, R79, R82); a response word is status, data byte and error value
(R80, R81); and which ports each operation drives and reads (R87). Settles O1, O2, O3, O5 and O22.
-/

namespace Sys2Proof

/-! ### Decode and encode -/

/-- The encoder puts the two fields of every instruction where R78 says. -/
theorem fields_encode (i : Instr) : cmdOp (encode i) = opcodeOf i ∧ cmdData (encode i) = dataOf i :=
  Laws.WordFields.fields_of_append _ _

/-- The two fields of a word determine what it decodes to. -/
theorem decode_eq_of_fields {w : CmdWord} {i : Instr} (hop : cmdOp w = opcodeOf i)
    (hdata : cmdData w = dataOf i) : decode w = i := by
  cases i <;> simp [decode, hop, hdata, opcodeOf, dataOf]

/-- The encoder loses nothing of an instruction. -/
theorem decode_encode (i : Instr) : decode (encode i) = i := by
  obtain ⟨hop, hdata⟩ := fields_encode i
  exact decode_eq_of_fields hop hdata

theorem decodeNat_of_lt {w : Nat} (h : w < 2 ^ 10) :
    decodeNat w = .ok (decode (BitVec.ofNat 10 w)) := by
  rw [decodeNat, if_pos h]

/-- The decoder on numbers accepts the 10-bit words alone, and on them it is `decode`. -/
theorem decodeNat_eq_ok_iff {w : Nat} {i : Instr} :
    decodeNat w = .ok i ↔ ∃ v : CmdWord, v.toNat = w ∧ decode v = i := by
  constructor
  · intro h
    unfold decodeNat at h
    split_ifs at h with hlt
    exact ⟨BitVec.ofNat 10 w, by rw [BitVec.toNat_ofNat, Nat.mod_eq_of_lt hlt], Except.ok.inj h⟩
  · rintro ⟨v, rfl, rfl⟩
    rw [decodeNat_of_lt v.isLt, BitVec.ofNat_toNat, BitVec.setWidth_eq]

/-- Settles O3: `encode` is the two-sided inverse of `decode`. -/
theorem decodeAndEncodeAgree : Obligations.DecodeAndEncodeAgree := by
  intro w i
  rw [decodeNat_eq_ok_iff]
  constructor
  · rintro ⟨v, rfl, rfl⟩
    rw [encode_decode]
  · rintro rfl
    exact ⟨encode i, rfl, decode_encode i⟩

/-! ### Match and mask -/

theorem cmdOp_append_cmdData (w : CmdWord) : cmdOp w ++ cmdData w = w := by
  rw [← opcodeOf_decode, ← dataOf_decode]
  exact encode_decode w

/-- The mask of R79 keeps the command code and clears the data field. -/
theorem and_opMask (w : CmdWord) : w &&& 0x300#10 = cmdOp w ++ 0#8 :=
  calc w &&& 0x300#10
      = (cmdOp w ++ cmdData w) &&& (BitVec.allOnes 2 ++ 0#8) := by rw [cmdOp_append_cmdData]; rfl
    _ = cmdOp w ++ 0#8 := by rw [BitVec.and_append, BitVec.and_allOnes, BitVec.and_zero]

/-- The low byte alone: the command code is cleared and the data field kept. -/
theorem and_dataMask (w : CmdWord) : w &&& 0x0FF#10 = 0#2 ++ cmdData w :=
  calc w &&& 0x0FF#10
      = (cmdOp w ++ cmdData w) &&& (0#2 ++ BitVec.allOnes 8) := by rw [cmdOp_append_cmdData]; rfl
    _ = 0#2 ++ cmdData w := by rw [BitVec.and_append, BitVec.and_allOnes, BitVec.and_zero]

/-- The masked word matches a row exactly when the decoded instruction has the row's command code. -/
theorem and_opMask_eq_iff (w : CmdWord) (o : BitVec 2) :
    w &&& 0x300#10 = o ++ 0#8 ↔ opcodeOf (decode w) = o := by
  rw [and_opMask, opcodeOf_decode]
  exact BitVec.append_left_inj _

/-- The command code names the constructor (R79, R82). -/
theorem opcodeOf_eq_iff (i : Instr) :
    (opcodeOf i = 0b00#2 ↔ ∃ b, i = .write b) ∧ (opcodeOf i = 0b01#2 ↔ ∃ d, i = .flush d) ∧
    (opcodeOf i = 0b10#2 ↔ ∃ d, i = .read d) ∧ (opcodeOf i = 0b11#2 ↔ ∃ d, i = .reserved11 d) := by
  cases i <;> simp [opcodeOf]

/-- Settles O2: the masks split a word into its two fields, and the command code names the row. -/
theorem matchAndMaskChooseTheRow : Obligations.MatchAndMaskChooseTheRow := by
  intro w
  obtain ⟨hwrite, hflush, hread, hreserved⟩ := opcodeOf_eq_iff (decode w)
  refine ⟨(and_opMask_eq_iff w 0b00#2).trans hwrite, (and_opMask_eq_iff w 0b01#2).trans hflush,
    (and_opMask_eq_iff w 0b10#2).trans hread, (and_opMask_eq_iff w 0b11#2).trans hreserved, ?_⟩
  rw [dataOf_decode, and_dataMask, BitVec.setWidth_eq_extractLsb' (by decide)]
  exact BitVec.extractLsb'_append_eq_right.symm

/-- Settles O1: nine closed words, each decoded by evaluation. -/
theorem commandWordVectorsDecode : Obligations.CommandWordVectorsDecode := by
  unfold Obligations.CommandWordVectorsDecode
  decide

end Sys2Proof

namespace Sys2Proof.Machine

/-! ### The response word -/

theorem responseWord_status (ew : Nat) (st : BitVec 2) (d : Byte) (e : ErrCode) :
    (responseWord ew st d e).extractLsb' (ew + 8) 2 = st :=
  calc (responseWord ew st d e).extractLsb' (ew + 8) 2
      = (st ++ d).extractLsb' (ew + 8 - ew) 2 := BitVec.extractLsb'_append_eq_of_le (by omega)
    _ = st := by rw [Nat.add_sub_cancel_left]; exact BitVec.extractLsb'_append_eq_left

theorem responseWord_data (ew : Nat) (st : BitVec 2) (d : Byte) (e : ErrCode) :
    (responseWord ew st d e).extractLsb' ew 8 = d :=
  calc (responseWord ew st d e).extractLsb' ew 8
      = (st ++ d).extractLsb' (ew - ew) 8 := BitVec.extractLsb'_append_eq_of_le le_rfl
    _ = d := by rw [Nat.sub_self]; exact BitVec.extractLsb'_append_eq_right

theorem responseWord_err (ew : Nat) (st : BitVec 2) (d : Byte) (e : ErrCode) :
    (responseWord ew st d e).extractLsb' 0 ew = BitVec.ofNat ew e :=
  BitVec.extractLsb'_append_eq_right

/-- The status `0b11` spells no result (R81). -/
theorem statusOf_ne_three (r : Result) : statusOf r ≠ 0b11#2 := by
  cases r <;> simp

/-- Settles O5: the three fields of any response word, then the four results. -/
theorem responseWordFields : Obligations.ResponseWordFields := by
  intro ew r herr
  refine ⟨responseWord_status _ _ _ _, responseWord_data _ _ _ _, ?_, statusOf_ne_three r,
    ?_, ?_, ?_, ?_⟩
  · rw [resultWord, responseWord_err, BitVec.toNat_ofNat, Nat.mod_eq_of_lt herr]
  · rintro rfl
    exact ⟨rfl, rfl, rfl⟩
  · rintro b rfl
    exact ⟨rfl, rfl, rfl⟩
  · rintro e rfl
    exact ⟨rfl, rfl, rfl⟩
  · rintro rfl
    exact ⟨rfl, rfl, rfl⟩

/-! ### The operations at the ports -/

@[simp] theorem respond_out (r : Result) (s : State) : (respond r s).out = { s.out with
    rspValid := true, rspStatus := statusOf r, rspData := rspDataOf r, rspErr := rspErrOf r } := rfl

/-- The response port spells the result (R80, R81). -/
theorem rspWord_respond (r : Result) (s : State) : (respond r s).rspWord = resultWord s.ew r := rfl

/-- Settles O22: the outputs by each operation's law, the answers by their input ports. -/
theorem operationsAtThePorts : Obligations.OperationsAtThePorts := by
  intro s
  refine ⟨pinSet_out s .high, pinSet_out s .low, pinSetAnswer_ok, pinSetAnswer_err, pinGet_out s,
    pinGetAnswer_ok, pinGetAnswer_err, timerReset_out s, timerPoll_out s, fun hk he => ?_,
    fun hk he => ?_, pollAnswer_contract, nopCycle_out s,
    fun r => ⟨rspWord_respond r s, respond_out r s⟩, respond_out .okUnit s,
    fun b => respond_out (.okByte b) s, fun e => respond_out (.errBus e) s,
    respond_out .errInvalidInterrupt s⟩
  · rw [pollAnswer_free hk, if_pos he]
  · simp [pollAnswer_free hk, he]

end Sys2Proof.Machine
end

section
/-!
SUPPORT. Which presented words are refused (30_encoding.md R82) and that every accepted command is answered
once (R60, R80): a word of the reserved code is refused, no row of the step tables refuses anything, and no
row answers without ending the command. Settles O14, O15 and O35.
-/

namespace Sys2Proof.Machine

variable {s t : State}

/-! ### Refusals -/

theorem exec_reserved11 (d : Byte) (s : State) :
    exec (.reserved11 d) s = .refused .reservedCommand := rfl

/-- Settles O14: a word with the reserved code decodes to a reserved instruction. -/
theorem reservedCodeIsRefused : Obligations.ReservedCodeIsRefused := by
  refine ⟨exec_reserved11, fun s w hn hp hop => ?_⟩
  obtain ⟨-, -, -, hreserved⟩ := opcodeOf_eq_iff (decode w)
  obtain ⟨d, hd⟩ := hreserved.1 ((opcodeOf_decode w).trans hop)
  rw [step_presented hn hp, hd, exec_reserved11, clocked]

/-- A wait refuses only what its own row refuses. -/
theorem waitStep_ne_refused {f : State → Host.Outcome State Fault Refusal} {r : Refusal}
    (hf : f (timerPoll s) ≠ .refused r) : waitStep f s ≠ .refused r := by
  cases ha : s.pollAnswer with
  | notYet => simp [waitStep_notYet ha]
  | elapsed => rwa [waitStep_elapsed ha]

theorem driveStep_ne_refused (v : Level) (f : State → State) (r : Refusal) :
    driveStep v f s ≠ .refused r := by
  cases ha : s.pinSetAnswer with
  | ok => simp [driveStep_ok ha]
  | err e => simp [driveStep_err ha]

theorem tresetStep_ne_refused (align waitStart : Seq) (r : Refusal) :
    tresetStep align waitStart s ≠ .refused r := by
  unfold tresetStep
  split_ifs <;> simp

theorem alignStep_ne_refused (align waitStart : Seq) (r : Refusal) :
    alignStep align waitStart s ≠ .refused r := by
  unfold alignStep
  split_ifs <;> simp

/-- The sequencer refuses nothing: only a presented word can be refused. -/
theorem seqStep_ne_refused (s : State) (r : Refusal) : seqStep s ≠ .refused r := by
  cases hq : s.seq with
  | idle => simp [seqStep, hq]
  | txStart | txData | txStop =>
    simp only [seqStep, hq]
    exact driveStep_ne_refused _ _ r
  | txTreset | rxTreset => simpa only [seqStep, hq] using tresetStep_ne_refused _ _ r
  | txAlign | rxAlign => simpa only [seqStep, hq] using alignStep_ne_refused _ _ r
  | txWaitStart | txWaitStop | rxWaitStart | rxWaitStop =>
    simp only [seqStep, hq]
    exact waitStep_ne_refused nofun
  | txWaitData | rxWaitData =>
    simp only [seqStep, hq]
    exact waitStep_ne_refused (by split_ifs <;> simp)
  | rxCheck =>
    simp only [seqStep, hq, rxCheckStep]
    split <;> simp
  | rxData =>
    simp only [seqStep, hq, rxDataStep]
    split <;> simp

/-- A command of R79 is accepted or waits, and is refused in neither case. -/
theorem exec_ne_refused {i : Instr} (hw : WellFormed i = true) (r : Refusal) :
    exec i s ≠ .refused r := by
  by_cases hi : s.seq = .idle
  · cases i with
    | write b => simp [exec, execWrite, whenReady_idle hi]
    | flush d => simp [exec, execFlush, whenReady_idle hi]
    | read d => simp [exec, execRead, whenReady_idle hi]
    | reserved11 d => cases hw
  · rw [exec_busy hw hi]
    exact seqStep_ne_refused s r

/-- Settles O15: the reserved code has its one refusal, and a command of R79 has none. -/
theorem onlyIllFormedWordsAreRefused : Obligations.OnlyIllFormedWordsAreRefused := by
  intro i s r
  cases i with
  | reserved11 d => simp [exec_reserved11, WellFormed, eq_comm]
  | _ => exact iff_of_false (exec_ne_refused rfl r) nofun

/-! ### The balance of commands and results -/

/-- From `s` to `t` the `Cmd` events, with the command running before, are as many as the `Rsp` events,
with the command running after. -/
def Balanced (s t : State) : Prop :=
  (newEvents s t).countP Event.isCmd + s.busy.toNat =
    (newEvents s t).countP Event.isRsp + t.busy.toNat

/-- The balance, from the events a cycle adds. -/
theorem balanced_iff {evs : List Event} (ht : t.trace = s.trace ++ evs) :
    Balanced s t ↔
      evs.countP Event.isCmd + s.busy.toNat = evs.countP Event.isRsp + t.busy.toNat := by
  simp [Balanced, newEvents, ht]

@[simp] theorem isCmd_cmd (c : Command) : (Event.cmd c).isCmd = true := rfl
@[simp] theorem isRsp_cmd (c : Command) : (Event.cmd c).isRsp = false := rfl
@[simp] theorem isCmd_rsp (r : Result) : (Event.rsp r).isCmd = false := rfl
@[simp] theorem isRsp_rsp (r : Result) : (Event.rsp r).isRsp = true := rfl

@[simp] theorem finish_busy (r : Result) (s : State) : (finish r s).busy = false := rfl

theorem not_isCmd_isRsp_of_inner {e : Event} (he : inner [e] = true) :
    e.isCmd = false ∧ e.isRsp = false := by
  simpa [inner] using he

/-- A cycle with one operation of a command that runs before and after. -/
theorem balanced_of_operation {e : Event} (hs : s.seq ≠ .idle) (ht : t.seq ≠ .idle)
    (he : inner [e] = true) (htr : t.trace = s.trace ++ [e]) : Balanced s t := by
  obtain ⟨hc, hr⟩ := not_isCmd_isRsp_of_inner he
  simp [balanced_iff htr, busy_eq_true.2 hs, busy_eq_true.2 ht, hc, hr]

/-- The last cycle of a running command: one operation and the answer. -/
theorem balanced_of_answer {e : Event} {r : Result} (hs : s.seq ≠ .idle)
    (he : inner [e] = true) (htr : t.trace = s.trace ++ [e]) : Balanced s (finish r t) := by
  obtain ⟨hc, hr⟩ := not_isCmd_isRsp_of_inner he
  have htr' : (finish r t).trace = s.trace ++ [e, .rsp r] := by simp [htr]
  simp [balanced_iff htr', busy_eq_true.2 hs, hc, hr, List.countP_cons]

/-- The acceptance of a command that then runs. -/
theorem balanced_of_acceptance {c : Command} (hs : s.seq = .idle) (ht : t.seq ≠ .idle)
    (htr : t.trace = s.trace ++ [.cmd c]) : Balanced s t := by
  simp [balanced_iff htr, busy_eq_false.2 hs, busy_eq_true.2 ht]

/-- FLUSH is accepted and answered in one cycle (R118). -/
theorem balanced_of_flush (hs : s.seq = .idle) :
    Balanced s (finish .okUnit (accept .flush s)) := by
  have htr : (finish .okUnit (accept .flush s)).trace = s.trace ++ [.cmd .flush, .rsp .okUnit] := by
    simp
  simp [balanced_iff htr, busy_eq_false.2 hs, List.countP_cons]

/-- A row keeps the balance: it accepts nothing, and it answers exactly when it ends the command. -/
theorem SeqRow.balanced (h : SeqRow s t) : Balanced s t := by
  cases h with
  | idle => exact (balanced_iff (evs := []) (by simp)).2 rfl
  | notYet h =>
    have hb : s.seq ≠ .idle := by rcases h with h | h | h | h | h | h <;> simp [h]
    exact balanced_of_operation hb hb rfl rfl
  | txStartErr _ h | txDataErr _ h | txStopErr _ h | rxCheckErr _ h | rxDataErr _ h
  | txWaitStop h | rxCheckHigh h | rxWaitStop h =>
    exact balanced_of_answer (by simp [h]) rfl rfl
  | rxData _ h | _ h => exact balanced_of_operation (by simp [h]) nofun rfl rfl

/-- Settles O35: each way the block can step keeps the balance, and the clock edge adds nothing. -/
theorem oneResponsePerCommand : Obligations.OneResponsePerCommand := by
  intro s t hn h
  obtain ⟨u, rfl, hu⟩ := blockStep_of_step h
  have hbal : Balanced s u := by
    cases hu with
    | reset hreset => simp [hn] at hreset
    | row _ _ hrow => exact hrow.balanced
    | write _ _ _ hi => exact balanced_of_acceptance hi nofun rfl
    | flush _ _ _ hi => exact balanced_of_flush hi
    | read _ _ _ hi => exact balanced_of_acceptance hi nofun rfl
  simpa [Balanced, State.busy] using hbal

end Sys2Proof.Machine
end

section
/-!
SUPPORT. Trace monitors and the pacing law: a property of the events to come that every cycle of the block
keeps holds along every run; and the walk of 40_timing_control.md R96 along a whole run, which knows how many
full-period waits have passed since the last pin operation of the running command. Settles O46.
-/

namespace Sys2Proof.Machine

variable {s t u : State} {Q : Seq → List Event → Prop}

/-! ### Monitors -/

/-- `t` comes after `s`, and events that `Q` allows to follow in the state of `t` it allows in that of `s`
after the events between. -/
def Monitored (Q : Seq → List Event → Prop) (s t : State) : Prop :=
  ∃ evs, t.trace = s.trace ++ evs ∧ ∀ rest, Q t.seq rest → Q s.seq (evs ++ rest)

theorem Monitored.refl (s : State) : Monitored Q s s := ⟨[], by simp, fun _ h => h⟩

theorem Monitored.trans (h : Monitored Q s t) (h' : Monitored Q t u) : Monitored Q s u := by
  obtain ⟨evs, ht, hq⟩ := h
  obtain ⟨evs', hu, hq'⟩ := h'
  exact ⟨evs ++ evs', by rw [hu, ht, List.append_assoc],
    fun rest hr => by rw [List.append_assoc]; exact hq _ (hq' _ hr)⟩

theorem Monitored.clockEdge (h : Monitored Q s t) : Monitored Q s (Machine.clockEdge t) := by
  simpa [Monitored] using h

/-- What every cycle of the block satisfies, every run satisfies. -/
theorem run_monitored (hstep : ∀ s u, BlockStep s u → Monitored Q s u) {n : Nat}
    (h : run n s = .next t) : Monitored Q s t := by
  induction n generalizing s with
  | zero => cases h; exact .refl _
  | succ n ih =>
    obtain ⟨v, hs, hr⟩ := run_succ_cases h
    obtain ⟨u, rfl, hu⟩ := blockStep_of_step hs
    exact (hstep s u hu).clockEdge.trans (ih hr)

/-- The events of an answered command are events that the monitor allows. -/
theorem Answered.monitored {c : Command} {mid : List Event} {r : Result} (h : Answered s c mid r)
    (hstep : ∀ s u, BlockStep s u → Monitored Q s u) (hend : ∀ q, Q q []) :
    Q s.seq (.cmd c :: mid ++ [.rsp r]) := by
  obtain ⟨n, t, hrun, htrace, -⟩ := h
  obtain ⟨evs, hevs, hq⟩ := run_monitored hstep hrun
  obtain rfl : .cmd c :: mid ++ [.rsp r] = evs := List.append_cancel_left (htrace.symm.trans hevs)
  simpa using hq [] (hend _)

/-! ### The pacing walk along a run -/

/-- The count of `pacedFrom` after one event. -/
def waitsAfter (waits : Option Nat) (e : Event) : Option Nat :=
  if e.isPin then some 0 else if e = .poll .elapsed then waits.map (· + 1) else waits

/-- The walk of R96 takes the events one by one. -/
theorem pacedFrom_cons (waits : Option Nat) (e : Event) (evs : List Event) :
    pacedFrom waits (e :: evs) = (pacedFrom waits [e] && pacedFrom (waitsAfter waits e) evs) := by
  simp only [pacedFrom, waitsAfter]
  split_ifs <;> simp

/-- The pacing of every command of a run. The first argument is the count of `pacedFrom` for the running
command, and `none` when no command runs; then only a `Cmd` can follow, and each `Cmd` starts the walk
again. -/
def pacedRun : Option (Option Nat) → List Event → Prop
  | _, [] => True
  | _, .cmd _ :: evs => pacedRun (some none) evs
  | none, _ :: _ => False
  | some _, .rsp _ :: evs => pacedRun none evs
  | some waits, e :: evs => pacedFrom waits [e] = true ∧ pacedRun (some (waitsAfter waits e)) evs

/-- How many full-period waits have passed since the last pin operation, as `pacedFrom` counts them: no pin
operation before the start bit's drive and the check, and one wait before each later pin state (R95, R96).
`RX_WAIT_STOP` is the second wait after the last sample (R137). -/
def Seq.waits : Seq → Option (Option Nat)
  | .idle => none
  | .txStart | .rxCheck => some none
  | .txData | .txStop | .rxData | .rxWaitStop => some (some 1)
  | .txTreset | .txAlign | .txWaitStart | .txWaitData | .txWaitStop | .rxTreset | .rxAlign
  | .rxWaitStart | .rxWaitData => some (some 0)

@[simp] theorem pacedRun_nil (w : Option (Option Nat)) : pacedRun w [] := by simp [pacedRun]

@[simp] theorem pacedRun_cmd (w : Option (Option Nat)) (c : Command) (evs : List Event) :
    pacedRun w (.cmd c :: evs) ↔ pacedRun (some none) evs := by simp [pacedRun]

@[simp] theorem pacedRun_rsp (waits : Option Nat) (r : Result) (evs : List Event) :
    pacedRun (some waits) (.rsp r :: evs) ↔ pacedRun none evs := by simp [pacedRun]

theorem pacedRun_operation {waits : Option Nat} {e : Event} {evs : List Event}
    (he : inner [e] = true) :
    pacedRun (some waits) (e :: evs) ↔
      pacedFrom waits [e] = true ∧ pacedRun (some (waitsAfter waits e)) evs := by
  cases e with
  | cmd c => cases he
  | rsp r => cases he
  | _ => simp [pacedRun]

/-- What may follow an idle block may follow a dropped command. -/
theorem pacedRun_of_idle {w : Option (Option Nat)} {evs : List Event} (h : pacedRun none evs) :
    pacedRun w evs := by
  cases evs with
  | nil => simp
  | cons e evs =>
    cases e with
    | cmd c => simpa using h
    | _ => simp [pacedRun] at h

/-- The walk along a run is, inside one command, the walk of R96. -/
theorem pacedFrom_of_pacedRun {rest : List Event} :
    ∀ {mid : List Event} {waits : Option Nat}, inner mid = true →
      pacedRun (some waits) (mid ++ rest) → pacedFrom waits mid = true
  | [], _, _, _ => by simp [pacedFrom]
  | e :: mid, waits, hmid, h => by
    obtain ⟨he, hmid⟩ := inner_cons.1 hmid
    obtain ⟨hone, h⟩ := (pacedRun_operation he).1 h
    rw [pacedFrom_cons, hone, pacedFrom_of_pacedRun hmid h, Bool.and_self]

/-! ### Every cycle keeps the pacing -/

/-- The pacing walk as a monitor. -/
def Paces (s t : State) : Prop := Monitored (fun q => pacedRun q.waits) s t

/-- A cycle without an event after which the block is idle. -/
theorem paces_of_silent (ht : t.trace = s.trace) (hi : t.seq = .idle) : Paces s t :=
  ⟨[], by simpa using ht, fun _ hr => pacedRun_of_idle (by rwa [hi] at hr)⟩

/-- A cycle of a running command with one operation that the walk allows, and the count after it. -/
theorem paces_of_operation {q : Seq} {waits : Option Nat} {e : Event} (hq : s.seq = q)
    (hw : q.waits = some waits) (he : inner [e] = true) (hp : pacedFrom waits [e] = true)
    (ht : t.trace = s.trace ++ [e]) (ha : t.seq.waits = some (waitsAfter waits e)) : Paces s t :=
  ⟨[e], ht, fun _ hr => by
    change pacedRun s.seq.waits (e :: _)
    rw [hq, hw]
    exact (pacedRun_operation he).2 ⟨hp, ha ▸ hr⟩⟩

/-- The last cycle of a running command: one operation that the walk allows, and the answer. -/
theorem paces_of_answer {q : Seq} {waits : Option Nat} {e : Event} {r : Result} (hq : s.seq = q)
    (hw : q.waits = some waits) (he : inner [e] = true) (hp : pacedFrom waits [e] = true)
    (ht : t.trace = s.trace ++ [e]) : Paces s (finish r t) :=
  ⟨[e] ++ [.rsp r], by rw [finish_trace, ht, List.append_assoc], fun _ hr => by
    change pacedRun s.seq.waits (e :: .rsp r :: _)
    rw [hq, hw]
    exact (pacedRun_operation he).2 ⟨hp, (pacedRun_rsp _ _ _).2 hr⟩⟩

/-- A poll's event, once its answer is known. -/
theorem timerPoll_trace_of_answer {a : PollAnswer} (ha : s.pollAnswer = a) :
    (timerPoll s).trace = s.trace ++ [.poll a] := by
  rw [timerPoll_trace, ha]

/-- Every row of the step tables keeps the pacing: a pin operation stands only in a state that the last one
reaches over one `ELAPSED`. -/
theorem SeqRow.paces (h : SeqRow s t) : Paces s t := by
  cases h with
  | idle h => exact paces_of_silent rfl h
  | notYet h ha =>
    rcases h with h | h | h | h | h | h <;>
      exact paces_of_operation h rfl rfl rfl (timerPoll_trace_of_answer ha)
        (congrArg Seq.waits h)
  | txWaitStart h ha | txWaitData h ha | txWaitDataLast h ha | rxWaitStart h ha | rxWaitData h ha
  | rxWaitDataLast h ha =>
    exact paces_of_operation h rfl rfl rfl (timerPoll_trace_of_answer ha) rfl
  | txWaitStop h ha | rxWaitStop h ha =>
    exact paces_of_answer h rfl rfl rfl (timerPoll_trace_of_answer ha)
  | txStartErr _ h | txDataErr _ h | txStopErr _ h | rxCheckErr _ h | rxDataErr _ h
  | rxCheckHigh h =>
    exact paces_of_answer h rfl rfl rfl rfl
  | rxData _ h | _ h => exact paces_of_operation h rfl rfl rfl rfl rfl

theorem BlockStep.paces (h : BlockStep s u) : Paces s u := by
  cases h with
  | reset => exact paces_of_silent rfl rfl
  | row _ _ h => exact h.paces
  | write | read => exact ⟨[.cmd _], rfl, fun _ hr => (pacedRun_cmd _ _ _).2 hr⟩
  | flush =>
    exact ⟨[.cmd .flush, .rsp .okUnit], by simp,
      fun _ hr => (pacedRun_cmd _ _ _).2 ((pacedRun_rsp _ _ _).2 hr)⟩

/-- Settles O46: every run keeps the pacing walk, which inside one command is that of R96. -/
theorem pacingLaw : Obligations.PacingLaw := by
  intro s c mid r h
  have hrun : pacedRun (some none) (mid ++ [.rsp r]) := by
    simpa using h.monitored (fun _ _ => BlockStep.paces) (fun q => pacedRun_nil q.waits)
  obtain ⟨-, -, -, -, hinner⟩ := h
  exact pacedFrom_of_pacedRun hinner hrun

end Sys2Proof.Machine
end

section
/-!
SUPPORT. The timing states and the timer (40_timing_control.md R90 to R98): the rows of the timing states in
both halves, the wait that a stalled timer never ends (R94, R168), and what each cycle of the block does to the
reference timer. Settles O18, O26 and O39.
-/

namespace Sys2Proof.Machine

variable {s t u : State}

/-! ### The rows of the timing states -/

theorem isWait_iff {q : Seq} : q.isWait = true ↔
    q = .txWaitStart ∨ q = .txWaitData ∨ q = .txWaitStop ∨
      q = .rxWaitStart ∨ q = .rxWaitData ∨ q = .rxWaitStop := by
  cases q <;> simp [Seq.isWait]

/-- A wait stays where it is on `NOT_YET` (R92). -/
theorem seqRow_timerPoll (hq : s.seq.isWait = true) (ha : s.pollAnswer = .notYet) :
    SeqRow s (timerPoll s) :=
  .notYet (isWait_iff.1 hq) ha

theorem timerPoll_with_seq {q : Seq} (hq : s.seq = q) :
    { timerPoll s with seq := q } = timerPoll s := by
  subst hq
  rfl

theorem ne_zero_and_ne_one_of_one_lt {n : BitVec 3} (h : 1#3 < n) : n ≠ 0#3 ∧ n ≠ 1#3 := by
  refine ⟨?_, (BitVec.ne_of_lt h).symm⟩
  rintro rfl
  exact BitVec.not_lt_zero h

/-- A wait leaves its state on `ELAPSED`, with one poll (R92, R97). -/
theorem SeqRow.leaves_wait (h : SeqRow s t) (hq : s.seq.isWait = true)
    (ha : s.pollAnswer = .elapsed) : t.out.tmrPoll = true ∧ t.seq ≠ s.seq := by
  cases h with
  | notYet _ hn => simp [ha] at hn
  | txWaitStart h | txWaitData h | txWaitDataLast h | txWaitStop h | rxWaitStart h | rxWaitData h
  | rxWaitDataLast h | rxWaitStop h => exact ⟨rfl, by rw [h]; nofun⟩
  | rxData _ h | rxDataErr _ h | rxCheckErr _ h | txStartErr _ h | txDataErr _ h | txStopErr _ h
  | _ h => simp [h, Seq.isWait] at hq

/-- The timing states perform no pin operation, so none of their rows answers an error (R153). -/
theorem SeqRow.no_error_of_timing (h : SeqRow s t) (hq : s.seq.isTiming = true) :
    ∀ r, .rsp r ∈ newEvents s t → r = .okUnit ∨ ∃ b, r = .okByte b := by
  cases h with
  | idle h | txStart h | txStartErr _ h | txData h | txDataErr _ h | txStop h | txStopErr _ h
  | rxCheckErr _ h | rxCheckHigh h | rxCheckLow h | rxData _ h | rxDataErr _ h =>
    simp [h, Seq.isTiming, Seq.isWait] at hq
  | _ => simp [newEvents]

/-- Settles O18: the rows by the step table, the shape of the waits and the absence of errors by its
inversion. -/
theorem timingStepTable : Obligations.TimingStepTable := by
  intro s
  refine ⟨fun h hn => ?_, fun h hn => ?_, fun h hd => ?_, fun h hd => ?_, fun h ha => ?_,
    fun h ha => ?_, fun h hn => ?_, fun h hn => ?_, fun h hd => ?_, fun h hd => ?_, fun h ha => ?_,
    fun h ha => ?_, fun hq ha => seqStep_of_row (seqRow_timerPoll hq ha),
    fun t hq ha ht => (seqStep_row ht).leaves_wait hq ha, fun t e hq ht => ?_⟩
  · exact seqStep_of_row (.txTreset h (BitVec.ne_of_lt hn).symm)
  · exact seqStep_of_row (.txTresetSkip h hn)
  · obtain ⟨h0, h1⟩ := ne_zero_and_ne_one_of_one_lt hd
    exact seqStep_of_row (.txAlign h h0 h1)
  · exact seqStep_of_row (.txAlignLast h hd)
  · rw [timerPoll_with_seq h]
    exact seqStep_of_row (.notYet (.inl h) ha)
  · exact seqStep_of_row (.txWaitStart h ha)
  · exact seqStep_of_row (.rxTreset h (BitVec.ne_of_lt hn).symm)
  · exact seqStep_of_row (.rxTresetSkip h hn)
  · obtain ⟨h0, h1⟩ := ne_zero_and_ne_one_of_one_lt hd
    exact seqStep_of_row (.rxAlign h h0 h1)
  · exact seqStep_of_row (.rxAlignLast h hd)
  · rw [timerPoll_with_seq h]
    exact seqStep_of_row (seqRow_timerPoll (by rw [h]; rfl) ha)
  · exact seqStep_of_row (.rxWaitStart h ha)
  · have hok := (seqStep_row ht).no_error_of_timing hq
    exact ⟨fun h => by simpa using hok _ h, fun h => by simpa using hok _ h⟩

/-! ### A stalled timer -/

variable {n : Nat}

/-- In the next cycle there is no reset and the poll answers `NOT_YET`. -/
theorem Stalled.now (h : Stalled (n + 1) s) : s.now.rstN = true ∧ s.pollAnswer = .notYet := by
  obtain ⟨hk, -, hall⟩ := h
  obtain ⟨hn, he⟩ := hall s.now (by simp)
  exact ⟨hn, by simp [pollAnswer_free hk, he]⟩

/-- After one poll the timer stays stalled for the rest of the cycles. -/
theorem Stalled.next (h : Stalled (n + 1) s) : Stalled n (clockEdge (timerPoll s)) := by
  obtain ⟨hk, hlen, hall⟩ := h
  cases n with
  | zero => exact ⟨by simpa using hk, by omega, by simp⟩
  | succ n =>
    cases hl : s.later with
    | nil => simp [hl] at hlen
    | cons p ps =>
      rw [hl] at hlen hall
      exact ⟨by simpa using hk, by simpa [hl] using hlen,
        fun q hq => hall q (List.mem_cons_of_mem _ (by simpa [hl] using hq))⟩

theorem ne_idle_of_isWait {q : Seq} (hq : q.isWait = true) : q ≠ .idle := by
  rintro rfl
  simp [Seq.isWait] at hq

/-- One cycle of a wait under a stalled timer. -/
theorem step_of_stalled (hq : s.seq.isWait = true) (h : Stalled (n + 1) s)
    (hw : ∀ w, s.cmdPort = some w → WellFormed (decode w) = true) :
    step s = .next (clockEdge (timerPoll s)) := by
  obtain ⟨hn, ha⟩ := h.now
  exact step_of_blockStep (.row hn (fun w hp => ⟨hw w hp, ne_idle_of_isWait hq⟩)
    (seqRow_timerPoll hq ha))

/-- Settles O39, by induction on the number of cycles: each adds one `Poll(NOT_YET)`. -/
theorem stalledTimerHangs : Obligations.StalledTimerHangs := by
  intro n
  induction n with
  | zero =>
    intro s hq _ _
    have hbusy := busy_eq_true.2 (ne_idle_of_isWait hq)
    exact ⟨s, rfl, rfl, by simp, rfl, by simp [State.cmdReady, hbusy]⟩
  | succ n ih =>
    intro s hq hs hw
    have hport : (clockEdge (timerPoll s)).cmdPort = s.cmdPort :=
      clockEdge_cmdPort_of_busy (s := timerPoll s) (ne_idle_of_isWait hq)
    obtain ⟨t, hrun, hseq, htrace, hcmd, hready⟩ :=
      ih (clockEdge (timerPoll s)) (by simpa using hq) hs.next (by rwa [hport])
    refine ⟨t, ?_, by simpa using hseq, ?_, hcmd.trans hport, hready⟩
    · rw [run_succ_of_step (step_of_stalled hq hs hw), hrun]
    · obtain ⟨-, ha⟩ := hs.now
      rw [htrace, clockEdge_trace, timerPoll_trace, ha, List.append_assoc, List.replicate_succ,
        List.singleton_append]

/-! ### The reference timer -/

/-- What one cycle of the block, before the clock edge, does with the timer: nothing, a `TimerReset()`, or a
`TimerPoll()` (R98). -/
inductive TimerUse (s t : State) : Prop
  | unused (hreset : t.out.tmrReset = false) (hpoll : t.out.tmrPoll = false)
      (hcnt : t.tCnt = s.tCnt) (hflag : t.tFlag = s.tFlag) (hev : ∀ a, .poll a ∉ newEvents s t)
  | reset (hreset : t.out.tmrReset = true) (hpoll : t.out.tmrPoll = false) (hcnt : t.tCnt = 0)
      (hflag : t.tFlag = false) (hev : ∀ a, .poll a ∉ newEvents s t)
  | poll (hreset : t.out.tmrReset = false) (hpoll : t.out.tmrPoll = true) (hcnt : t.tCnt = s.tCnt)
      (hflag : t.tFlag = (timerPoll s).tFlag) (hev : .poll s.pollAnswer ∈ newEvents s t)

theorem SeqRow.timerUse (h : SeqRow s t) : TimerUse s t := by
  cases h with
  | txTresetSkip | txTreset | rxTresetSkip | rxTreset =>
    exact .reset rfl rfl rfl rfl (by simp [newEvents])
  | notYet | txWaitStart | txWaitData | txWaitDataLast | txWaitStop | rxWaitStart | rxWaitData
  | rxWaitDataLast | rxWaitStop => exact .poll rfl rfl rfl rfl (by simp [newEvents])
  | _ => exact .unused rfl rfl rfl rfl (by simp [newEvents])

theorem BlockStep.timerUse (h : BlockStep s u) : TimerUse s u := by
  cases h with
  | row _ _ h => exact h.timerUse
  | _ => exact .unused rfl rfl rfl rfl (by simp [newEvents])

/-- A poll of the reference timer consumes the flag, whichever way it answers (R98). -/
theorem timerPoll_tFlag_of_contract (hk : s.timerKind = .contract) :
    (timerPoll s).tFlag = false := by
  rw [timerPoll_tFlag, pollAnswer_contract hk]
  cases hf : s.tFlag <;> simp

theorem TimerUse.tCnt (h : TimerUse s t) : t.tCnt = if t.out.tmrReset then 0 else s.tCnt := by
  cases h with
  | unused hreset _ hcnt | reset hreset _ hcnt | poll hreset _ hcnt => simp [hreset, hcnt]

theorem TimerUse.tFlag (h : TimerUse s t) (hk : s.timerKind = .contract) :
    t.tFlag = if t.out.tmrReset then false else s.tFlag && !t.out.tmrPoll := by
  cases h with
  | unused hreset hpoll _ hflag | reset hreset hpoll _ hflag => simp [hreset, hpoll, hflag]
  | poll hreset hpoll _ hflag =>
    simp [hreset, hpoll, hflag.trans (timerPoll_tFlag_of_contract hk)]

/-- A cycle whose port polls has the answer in its events. -/
theorem TimerUse.poll_mem (h : TimerUse s t) (hp : t.out.tmrPoll = true) :
    .poll s.pollAnswer ∈ newEvents s t := by
  cases h with
  | poll _ _ _ _ hev => exact hev
  | unused _ hpoll | reset _ hpoll => simp [hp] at hpoll

/-- Only a cycle whose port polls has a `Poll` event. -/
theorem TimerUse.tmrPoll_of_mem {a : PollAnswer} (h : TimerUse s t)
    (ha : .poll a ∈ newEvents s t) : t.out.tmrPoll = true := by
  cases h with
  | poll _ hpoll => exact hpoll
  | unused _ _ _ _ hev | reset _ _ _ _ hev => exact absurd ha (hev a)

/-- The timer's own counting at the clock edge: a `TimerReset()` of the same cycle wins over it (R98). -/
theorem timerCount_tCnt (s : State) : (timerCount s).tCnt =
    if s.out.tmrReset then s.tCnt else if s.tCnt = s.period - 1 then 0 else s.tCnt + 1 := rfl

theorem timerCount_tFlag (s : State) : (timerCount s).tFlag =
    if s.out.tmrReset then s.tFlag else if s.tCnt = s.period - 1 then true else s.tFlag := rfl

/-- The count after a cycle: the block's use of the timer, then the timer's own counting. -/
theorem BlockStep.clockEdge_tCnt (h : BlockStep s u) : (clockEdge u).tCnt =
    if u.out.tmrReset then 0 else if s.tCnt = s.period - 1 then 0 else s.tCnt + 1 := by
  obtain ⟨hperiod, -⟩ := h.parameters
  rw [Machine.clockEdge_tCnt, timerCount_tCnt, h.timerUse.tCnt, hperiod]
  split_ifs <;> rfl

/-- The flag after a cycle: a boundary sets it again after a poll of the same cycle has consumed it. -/
theorem BlockStep.clockEdge_tFlag (h : BlockStep s u) (hk : s.timerKind = .contract) :
    (clockEdge u).tFlag = if u.out.tmrReset then false
      else if s.tCnt = s.period - 1 then true else s.tFlag && !u.out.tmrPoll := by
  obtain ⟨hperiod, -⟩ := h.parameters
  rw [Machine.clockEdge_tFlag, timerCount_tFlag, h.timerUse.tFlag hk, h.timerUse.tCnt, hperiod]
  split_ifs <;> rfl

/-- The count stays below the period. -/
theorem BlockStep.clockEdge_tCnt_lt (h : BlockStep s u) (hlt : s.tCnt < s.period) :
    (clockEdge u).tCnt < s.period := by
  rw [h.clockEdge_tCnt]
  split_ifs <;> omega

/-- Settles O26: each cycle uses the timer in one of three ways, and then the timer counts. -/
theorem timerContract : Obligations.TimerContract := by
  intro s t hk h
  obtain ⟨u, rfl, hu⟩ := blockStep_of_step h
  obtain ⟨hperiod, -⟩ := hu.parameters
  rw [clockEdge_out, newEvents_clockEdge, clockEdge_period, hperiod, ← pollAnswer_contract hk]
  exact ⟨hu.clockEdge_tCnt, hu.clockEdge_tFlag hk, hu.timerUse.poll_mem,
    fun _ => hu.timerUse.tmrPoll_of_mem, rfl, hu.clockEdge_tCnt_lt⟩

end Sys2Proof.Machine
end

section
/-!
SUPPORT. WRITE and FLUSH cycle by cycle: what an idle block accepts, the rows of 41_transmit.md R111, what they
leave unchanged, and that a state of 10_state.md R40 has a row. Settles O11, O12, O19, O27, O28 and O34.
-/

namespace Sys2Proof.Machine

variable {s t : State}

/-! ### Acceptance -/

theorem exec_write_of_idle (b : Byte) (hi : s.seq = .idle) : exec (.write b) s =
    .next { accept (.write b) s with txSr := b, txCnt := 0#4, seq := .txStart } := by
  rw [exec, execWrite, whenReady_idle hi]

theorem exec_flush_of_idle (d : Byte) (hi : s.seq = .idle) :
    exec (.flush d) s = .next (finish .okUnit (accept .flush s)) := by
  rw [exec, execFlush, whenReady_idle hi]

theorem exec_read_of_idle (d : Byte) (hi : s.seq = .idle) : exec (.read d) s =
    .next { accept .read s with rxSr := 0#8, rxCnt := 0#4, seq := .rxCheck } := by
  rw [exec, execRead, whenReady_idle hi]

/-- An accepted FLUSH, all of it: the word is taken and `OK` answered (R118). -/
theorem finish_accept_flush (hi : s.seq = .idle) :
    finish .okUnit (accept .flush s) = { s with
      cmdPort := none
      out := { PortOut.quiet with rspValid := true }
      trace := s.trace ++ [.cmd .flush, .rsp .okUnit] } := by
  simp [finish, respond, accept, PortOut.quiet, hi]

/-- Settles O11: the acceptance row of an idle block, field by field. -/
theorem writeIsAccepted : Obligations.WriteIsAccepted :=
  fun b _ => exec_write_of_idle b

/-- Settles O12: `01` is the command code of FLUSH, and the acceptance answers. -/
theorem flushAnswersAtOnce : Obligations.FlushAnswersAtOnce := by
  refine ⟨fun w hop => ?_, fun d s hi => ?_⟩
  · obtain ⟨-, hflush, -, -⟩ := opcodeOf_eq_iff (decode w)
    exact hflush.1 ((opcodeOf_decode w).trans hop)
  · rw [exec_flush_of_idle d hi, finish_accept_flush hi]

/-- Settles O27: of the three acceptances each writes its own registers only. -/
theorem acceptanceFrame : Obligations.AcceptanceFrame := by
  intro i s t hi h
  obtain ⟨hb, -⟩ | ⟨-, ⟨b, rfl, rfl⟩ | ⟨d, rfl, rfl⟩ | ⟨d, rfl, rfl⟩⟩ := exec_cases h
  · exact absurd hi hb
  · exact ⟨fun hw => absurd rfl (hw b), fun _ => ⟨rfl, rfl⟩, by simp⟩
  · exact ⟨fun _ => ⟨rfl, rfl⟩, fun _ => ⟨rfl, rfl⟩, by simp⟩
  · exact ⟨fun _ => ⟨rfl, rfl⟩, fun hr => absurd rfl (hr d), by simp⟩

/-! ### The rows of WRITE -/

/-- `TX_TRESET` in one row, whatever `NALIGN` is (R111). -/
theorem seqStep_txTreset (h : s.seq = .txTreset) : seqStep s = .next { timerReset s with
    dlyCnt := s.nalign, seq := if s.nalign = 0#3 then .txWaitStart else .txAlign } := by
  by_cases hn : s.nalign = 0#3
  · rw [seqStep_of_row (.txTresetSkip h hn), if_pos hn, hn]
  · rw [seqStep_of_row (.txTreset h hn), if_neg hn]

/-- `TX_ALIGN` in one row: it stays as long as cycles are left (R111). -/
theorem seqStep_txAlign (h : s.seq = .txAlign) (hd : 1#3 ≤ s.dlyCnt) :
    seqStep s = .next { nopCycle s with
      dlyCnt := s.dlyCnt - 1#3
      seq := if 0#3 < s.dlyCnt - 1#3 then .txAlign else .txWaitStart } := by
  by_cases h1 : s.dlyCnt = 1#3
  · rw [seqStep_of_row (.txAlignLast h h1), h1]
    rfl
  · have hmore : 0#3 < s.dlyCnt - 1#3 := by bv_omega
    rw [seqStep_of_row (.txAlign h (by bv_omega) h1), if_pos hmore]

/-- Settles O19: row by row from the step table. -/
theorem writeStepTable : Obligations.WriteStepTable := by
  intro s
  exact ⟨exec_write_of_idle, fun h ha => seqStep_of_row (.txStart h ha),
    fun e h ha => seqStep_of_row (.txStartErr e h ha), seqStep_txTreset, seqStep_txAlign,
    fun h ha => seqStep_of_row (.notYet (.inl h) ha),
    fun h ha => seqStep_of_row (.txWaitStart h ha), fun h ha => seqStep_of_row (.txData h ha),
    fun e h ha => seqStep_of_row (.txDataErr e h ha),
    fun h ha => seqStep_of_row (.notYet (.inr (.inl h)) ha),
    fun h ha hc => seqStep_of_row (.txWaitData h ha hc),
    fun h ha hc => seqStep_of_row (.txWaitDataLast h ha hc),
    fun h ha => seqStep_of_row (.txStop h ha), fun e h ha => seqStep_of_row (.txStopErr e h ha),
    fun h ha => seqStep_of_row (.notYet (.inr (.inr (.inl h))) ha),
    fun h ha => seqStep_of_row (.txWaitStop h ha)⟩

/-! ### Frames -/

/-- No row touches the port, the host's program, the inputs or the cycle number: those are the clock
edge's. -/
theorem SeqRow.outside (h : SeqRow s t) : t.cmdPort = s.cmdPort ∧ t.program = s.program ∧
    t.now = s.now ∧ t.later = s.later ∧ t.cycle = s.cycle := by
  cases h with
  | _ => exact ⟨rfl, rfl, rfl, rfl, rfl⟩

/-- What the rows of WRITE leave unchanged inside the block, the line and the timer. -/
theorem SeqRow.inside_of_tx (h : SeqRow s t) (hq : s.seq.isTx = true) :
    (s.seq ≠ .txData → t.txSr = s.txSr) ∧ (s.seq ≠ .txWaitData → t.txCnt = s.txCnt) ∧
    t.rxSr = s.rxSr ∧ t.rxCnt = s.rxCnt ∧
    (s.seq ≠ .txTreset → s.seq ≠ .txAlign → t.dlyCnt = s.dlyCnt) ∧
    (s.seq ≠ .txStart → s.seq ≠ .txData → s.seq ≠ .txStop → t.txLine = s.txLine) ∧
    (s.seq ≠ .txTreset → t.tCnt = s.tCnt) ∧
    (s.seq ≠ .txTreset → s.seq.isWait = false → t.tFlag = s.tFlag) ∧ t.out.rxpReq = false := by
  cases h with
  | notYet h ha => simp [isWait_iff.2 h, PortOut.quiet]
  | idle h | rxCheckErr _ h | rxCheckHigh h | rxCheckLow h | rxTresetSkip h | rxTreset h
  | rxAlignLast h | rxAlign h | rxWaitStart h | rxData _ h | rxDataErr _ h | rxWaitData h
  | rxWaitDataLast h | rxWaitStop h => simp [h, Seq.isTx] at hq
  | txStartErr _ h | txDataErr _ h | txStopErr _ h | _ h => simp [h, PortOut.quiet, Seq.isWait]

/-- Settles O28: each register has its one row, and the rest is the frame of every row. -/
theorem transmitStepFrame : Obligations.TransmitStepFrame := by
  intro s t hq h
  have hrow := seqStep_row h
  obtain ⟨hsr, hcnt, hrxSr, hrxCnt, hdly, hline, htCnt, htFlag, hrx⟩ := hrow.inside_of_tx hq
  obtain ⟨hperiod, hkind, hnalign, hew⟩ := hrow.parameters
  exact ⟨hsr, hcnt, hrxSr, hrxCnt, hdly, hline, htCnt, htFlag, hrx, hperiod, hkind, hnalign, hew,
    hrow.outside⟩

/-! ### A state of the invariant has a row -/

theorem exists_row_of_wait (hq : s.seq.isWait = true)
    (helapsed : s.pollAnswer = .elapsed → ∃ t, SeqRow s t) : ∃ t, SeqRow s t := by
  cases ha : s.pollAnswer with
  | notYet => exact ⟨_, seqRow_timerPoll hq ha⟩
  | elapsed => exact helapsed ha

theorem exists_row_of_drive (hok : s.pinSetAnswer = .ok → ∃ t, SeqRow s t)
    (herr : ∀ e, s.pinSetAnswer = .err e → ∃ t, SeqRow s t) : ∃ t, SeqRow s t := by
  cases ha : s.pinSetAnswer with
  | ok => exact hok ha
  | err e => exact herr e ha

theorem lt_or_eq_of_le_seven {c : BitVec 4} (h : c ≤ 7#4) : c < 7#4 ∨ c = 7#4 := by
  bv_omega

/-- The invariant excludes the states without a row: `X_ALIGN` at 0, and a bit counter above 7 (R40). -/
theorem exists_row_of_seqInv (h : seqInv s = true) : ∃ t, SeqRow s t := by
  cases hq : s.seq with
  | idle => exact ⟨_, .idle hq⟩
  | txStart =>
    exact exists_row_of_drive (fun ha => ⟨_, .txStart hq ha⟩) fun e ha => ⟨_, .txStartErr e hq ha⟩
  | txData =>
    exact exists_row_of_drive (fun ha => ⟨_, .txData hq ha⟩) fun e ha => ⟨_, .txDataErr e hq ha⟩
  | txStop =>
    exact exists_row_of_drive (fun ha => ⟨_, .txStop hq ha⟩) fun e ha => ⟨_, .txStopErr e hq ha⟩
  | txTreset => exact ⟨_, seqStep_row (seqStep_txTreset hq)⟩
  | rxTreset =>
    by_cases hn : s.nalign = 0#3
    · exact ⟨_, .rxTresetSkip hq hn⟩
    · exact ⟨_, .rxTreset hq hn⟩
  | txAlign =>
    obtain ⟨⟨-, hd⟩, -⟩ : (s.txCnt = 0#4 ∧ 1#3 ≤ s.dlyCnt) ∧ s.dlyCnt ≤ s.nalign := by
      simpa [seqInv, hq] using h
    exact ⟨_, seqStep_row (seqStep_txAlign hq hd)⟩
  | rxAlign =>
    obtain ⟨⟨-, hd⟩, -⟩ : ((s.rxCnt = 0#4 ∧ s.rxSr = 0#8) ∧ 1#3 ≤ s.dlyCnt) ∧
        s.dlyCnt ≤ s.nalign := by simpa [seqInv, hq] using h
    by_cases h1 : s.dlyCnt = 1#3
    · exact ⟨_, .rxAlignLast hq h1⟩
    · exact ⟨_, .rxAlign hq (by bv_omega) h1⟩
  | txWaitStart =>
    exact exists_row_of_wait (by rw [hq]; rfl) fun ha => ⟨_, .txWaitStart hq ha⟩
  | txWaitStop => exact exists_row_of_wait (by rw [hq]; rfl) fun ha => ⟨_, .txWaitStop hq ha⟩
  | rxWaitStart =>
    exact exists_row_of_wait (by rw [hq]; rfl) fun ha => ⟨_, .rxWaitStart hq ha⟩
  | rxWaitStop => exact exists_row_of_wait (by rw [hq]; rfl) fun ha => ⟨_, .rxWaitStop hq ha⟩
  | txWaitData =>
    obtain ⟨hc, -⟩ : s.txCnt ≤ 7#4 ∧ s.txSr >>> (7 - s.txCnt.toNat) = 0#8 := by
      simpa [seqInv, hq] using h
    refine exists_row_of_wait (by rw [hq]; rfl) fun ha => ?_
    obtain hlt | heq := lt_or_eq_of_le_seven hc
    · exact ⟨_, .txWaitData hq ha hlt⟩
    · exact ⟨_, .txWaitDataLast hq ha heq⟩
  | rxWaitData =>
    obtain ⟨hc, -⟩ : s.rxCnt ≤ 7#4 ∧ s.rxSr <<< (s.rxCnt.toNat + 1) = 0#8 := by
      simpa [seqInv, hq] using h
    refine exists_row_of_wait (by rw [hq]; rfl) fun ha => ?_
    obtain hlt | heq := lt_or_eq_of_le_seven hc
    · exact ⟨_, .rxWaitData hq ha hlt⟩
    · exact ⟨_, .rxWaitDataLast hq ha heq⟩
  | rxCheck =>
    cases ha : s.pinGetAnswer with
    | err e => exact ⟨_, .rxCheckErr e hq ha⟩
    | ok v =>
      cases v with
      | low => exact ⟨_, .rxCheckLow hq ha⟩
      | high => exact ⟨_, .rxCheckHigh hq ha⟩
  | rxData =>
    cases ha : s.pinGetAnswer with
    | err e => exact ⟨_, .rxDataErr e hq ha⟩
    | ok v => exact ⟨_, .rxData v hq ha⟩

theorem exec_next_of_idle {i : Instr} (hw : WellFormed i = true) (hi : s.seq = .idle) :
    ∃ t, exec i s = .next t := by
  cases i with
  | write b => exact ⟨_, exec_write_of_idle b hi⟩
  | flush d => exact ⟨_, exec_flush_of_idle d hi⟩
  | read d => exact ⟨_, exec_read_of_idle d hi⟩
  | reserved11 d => cases hw

/-- Settles O34: an idle block accepts the word that is presented, a busy one has a row. -/
theorem invariantStatesStep : Obligations.InvariantStatesStep := by
  rintro s ⟨hinv, -, -⟩ hw
  obtain ⟨t, hrow⟩ := exists_row_of_seqInv hinv
  cases hn : s.now.rstN with
  | false => exact ⟨_, step_in_reset hn⟩
  | true =>
    cases hp : s.cmdPort with
    | none => exact ⟨_, step_of_blockStep (.row hn (by simp [hp]) hrow)⟩
    | some w =>
      by_cases hi : s.seq = .idle
      · obtain ⟨u, hu⟩ := exec_next_of_idle (hw hn w hp) hi
        exact ⟨_, by rw [step_presented hn hp, hu, clocked_next]⟩
      · exact ⟨_, step_of_blockStep (.row hn (fun v hv => ⟨hw hn v hv, hi⟩) hrow)⟩

end Sys2Proof.Machine
end

section
/-!
SUPPORT. Where a WRITE stands: its positions in the frame, what the block holds at each of them, and how one
cycle moves from one to the next (41_transmit.md R110 to R117).
-/

namespace Sys2Proof.Machine

variable {s t u : State} {b : Byte} {k : Nat}

/-! ### Positions -/

/-- The positions of a WRITE after its acceptance: before the drive of cell `k`, before the timer's reset,
with `d` no-operation cycles still to run, in the wait of cell `k`. -/
inductive TxPos where
  | drive (k : Nat)
  | treset
  | align (d : Nat)
  | wait (k : Nat)
deriving DecidableEq

namespace TxPos

/-- The states of `seq` are those of the start cell, of the eight data cells, and of the stop cell (R21). -/
def seq : TxPos → Seq
  | drive k => if k = 0 then .txStart else if k ≤ 8 then .txData else .txStop
  | treset => .txTreset
  | align _ => .txAlign
  | wait k => if k = 0 then .txWaitStart else if k ≤ 8 then .txWaitData else .txWaitStop

/-- The cell that the position belongs to; the setting up of the timer belongs to the start cell (R95). -/
def cellIndex : TxPos → Nat
  | drive k | wait k => k
  | treset | align _ => 0

/-- How often `tx_sr` has been shifted: once by each data drive (R116). -/
def shifts : TxPos → Nat
  | drive k => k - 1
  | wait k => k
  | treset | align _ => 0

/-- The cell on the line, from the first drive on (R113). -/
def lineCell : TxPos → Option Nat
  | drive k => if k = 0 then none else some (k - 1)
  | treset | align _ => some 0
  | wait k => some k

/-- With `d` no-operation cycles to run: the wait of the start cell follows the last one (R91). -/
def settling (d : Nat) : TxPos := if d = 0 then wait 0 else align d

/-- The position after one cycle in which no pin operation fails and the command is not answered. -/
def next (nalign : Nat) (a : PollAnswer) : TxPos → TxPos
  | drive k => if k = 0 then treset else wait k
  | treset => settling nalign
  | align d => settling (d - 1)
  | wait k =>
    match a with
    | .notYet => wait k
    | .elapsed => drive (k + 1)

/-- The event of that cycle. -/
def event (b : Byte) (a : PollAnswer) : TxPos → Event
  | drive k => .txSet (cell b k) .ok
  | treset => .tReset
  | align _ => .nop
  | wait _ => .poll a

theorem inner_event (b : Byte) (a : PollAnswer) (p : TxPos) : inner [p.event b a] = true := by
  cases p <;> rfl

theorem seq_ne_idle (p : TxPos) : p.seq ≠ .idle := by
  cases p with
  | drive k | wait k =>
    simp only [seq]
    split_ifs <;> simp
  | treset | align d => nofun

end TxPos

/-- What the block holds at a position of the WRITE of `b`. -/
structure TxAt (b : Byte) (p : TxPos) (s : State) : Prop where
  cell_le : p.cellIndex ≤ 9
  seq : s.seq = p.seq
  txCnt : s.txCnt = BitVec.ofNat 4 (p.cellIndex - 1)
  txSr : s.txSr = b >>> p.shifts
  dlyCnt : ∀ d, p = .align d → 1 ≤ d ∧ s.dlyCnt.toNat = d
  txLine : ∀ k, p.lineCell = some k → s.txLine = cell b k

theorem TxAt.clockEdge {p : TxPos} (h : TxAt b p s) : TxAt b p (Machine.clockEdge s) := by
  obtain ⟨hk, hseq, hcnt, hsr, hdly, hline⟩ := h
  exact ⟨hk, by simpa, by simpa, by simpa, by simpa, by simpa⟩

/-- The acceptance row of R111 leads to the drive of the start bit. -/
theorem txAt_accepted (b : Byte) (s : State) :
    TxAt b (.drive 0) { accept (.write b) s with txSr := b, txCnt := 0#4, seq := .txStart } :=
  ⟨by decide, rfl, rfl, by simp [TxPos.shifts], nofun, by simp [TxPos.lineCell]⟩

/-! ### The cells of the frame -/

@[simp] theorem cell_zero (b : Byte) : cell b 0 = .low := rfl

@[simp] theorem cell_nine (b : Byte) : cell b 9 = .high := rfl

/-- The data drive of cell `k + 1` takes the low bit of a register shifted `k` times (R116). -/
theorem lowBitLevel_shifted (hk : k < 8) : lowBitLevel (b >>> k) = cell b (k + 1) := by
  have hle : k + 1 ≤ 8 := by omega
  simp [lowBitLevel, cell, hle]

theorem shiftOut_shifted (b : Byte) (k : Nat) : shiftOut (b >>> k) = b >>> (k + 1) := by
  rw [shiftOut, BitVec.shiftRight_add]

theorem shifted_eight (b : Byte) : b >>> 8 = b >>> 9 := by
  rw [BitVec.ushiftRight_eq_zero (by decide), BitVec.ushiftRight_eq_zero (by decide)]

/-! ### A drive -/

/-- The three drive rows of R111 as one: the cell is driven, and the position moves on. -/
theorem TxAt.drive_ok (h : TxAt b (.drive k) s) (ha : s.pinSetAnswer = .ok) :
    ∃ u, SeqRow s u ∧ TxAt b (if k = 0 then .treset else .wait k) u ∧
      u.trace = s.trace ++ [.txSet (cell b k) .ok] := by
  obtain ⟨hk, hseq, hcnt, hsr, -, -⟩ := h
  rcases k with _ | k
  · exact ⟨_, .txStart hseq ha, ⟨by decide, rfl, hcnt, hsr, nofun, by
      simp [TxPos.lineCell, lineAfterSet_of_ok ha]⟩, by simp [ha]⟩
  simp only [TxPos.shifts, Nat.add_sub_cancel] at hsr
  simp only [TxPos.cellIndex, Nat.add_sub_cancel] at hk hcnt
  obtain hk' | rfl : k < 8 ∨ k = 8 := by omega
  · have hle : k + 1 ≤ 8 := by omega
    have hlow : lowBitLevel s.txSr = cell b (k + 1) := by rw [hsr, lowBitLevel_shifted hk']
    refine ⟨_, .txData (by simp [hseq, TxPos.seq, hle]) ha, ?_, by simp [hlow, ha]⟩
    exact ⟨hk, by simp [TxPos.seq, hle], hcnt, by simp [hsr, shiftOut_shifted, TxPos.shifts], nofun,
      by simp [TxPos.lineCell, lineAfterSet_of_ok ha, hlow]⟩
  · exact ⟨_, .txStop hseq ha, ⟨hk, rfl, hcnt, hsr.trans (shifted_eight b), nofun, by
      simp [TxPos.lineCell, lineAfterSet_of_ok ha]⟩, by simp [ha]⟩

/-- The three failing drive rows as one: `ERR_BUS(e)` at once (R114, R115). -/
theorem TxAt.drive_err {e : ErrCode} (h : TxAt b (.drive k) s) (ha : s.pinSetAnswer = .err e) :
    SeqRow s (finish (.errBus e) (pinSet (cell b k) s)) := by
  obtain ⟨hk, hseq, hcnt, hsr, -, -⟩ := h
  rcases k with _ | k
  · exact .txStartErr e hseq ha
  simp only [TxPos.shifts, TxPos.cellIndex, Nat.add_sub_cancel] at hsr hk
  obtain hk' | rfl : k < 8 ∨ k = 8 := by omega
  · have hle : k + 1 ≤ 8 := by omega
    rw [← lowBitLevel_shifted hk', ← hsr]
    exact .txDataErr e (by simp [hseq, TxPos.seq, hle]) ha
  · exact .txStopErr e hseq ha

/-! ### A wait -/

theorem TxAt.isWait (h : TxAt b (.wait k) s) : s.seq.isWait = true := by
  rw [h.seq, TxPos.seq]
  split_ifs <;> rfl

theorem TxAt.wait_notYet (h : TxAt b (.wait k) s) : TxAt b (.wait k) (timerPoll s) := by
  obtain ⟨hk, hseq, hcnt, hsr, -, hline⟩ := h
  exact ⟨hk, hseq, hcnt, hsr, nofun, hline⟩

/-- The three waits before a drive as one: `ELAPSED` leads to the next cell. -/
theorem TxAt.wait_elapsed (h : TxAt b (.wait k) s) (hk : k < 9) (ha : s.pollAnswer = .elapsed) :
    ∃ u, SeqRow s u ∧ TxAt b (.drive (k + 1)) u ∧ u.trace = s.trace ++ [.poll .elapsed] := by
  obtain ⟨-, hseq, hcnt, hsr, -, hline⟩ := h
  have hline' : ∀ j, (TxPos.drive (k + 1)).lineCell = some j → s.txLine = cell b j := hline
  rcases k with _ | k
  · exact ⟨_, .txWaitStart hseq ha, ⟨by decide, rfl, hcnt, hsr, nofun, hline'⟩, by simp [ha]⟩
  simp only [TxPos.cellIndex, Nat.add_sub_cancel] at hcnt
  have hle : k + 1 ≤ 8 := by omega
  have hseq' : s.seq = .txWaitData := by simpa [TxPos.seq, hle] using hseq
  obtain hk' | rfl : k < 7 ∨ k = 7 := by omega
  · have hlt : s.txCnt < 7#4 := by rw [hcnt]; bv_omega
    have hle' : k + 1 + 1 ≤ 8 := by omega
    exact ⟨_, .txWaitData hseq' ha hlt, ⟨hk, by simp [TxPos.seq, hle'], by
      simp [TxPos.cellIndex, hcnt, BitVec.ofNat_add], hsr, nofun, hline'⟩, by simp [ha]⟩
  · exact ⟨_, .txWaitDataLast hseq' ha hcnt, ⟨hk, rfl, rfl, hsr, nofun, hline'⟩, by simp [ha]⟩

/-- The wait of the stop cell ends with the answer. -/
theorem TxAt.last_wait_elapsed (h : TxAt b (.wait 9) s) (ha : s.pollAnswer = .elapsed) :
    SeqRow s (finish .okUnit (timerPoll s)) :=
  .txWaitStop h.seq ha

/-! ### The setting up of the timer -/

theorem TxAt.treset_row (h : TxAt b .treset s) :
    ∃ u, SeqRow s u ∧ TxAt b (.settling s.nalign.toNat) u ∧ u.trace = s.trace ++ [.tReset] := by
  obtain ⟨-, hseq, hcnt, hsr, -, hline⟩ := h
  unfold TxPos.settling
  split_ifs with hn
  · exact ⟨_, .txTresetSkip hseq (BitVec.toNat_eq.2 hn),
      ⟨by decide, rfl, hcnt, hsr, nofun, hline⟩, rfl⟩
  · refine ⟨_, .txTreset hseq (fun h0 => hn (by rw [h0]; rfl)),
      ⟨Nat.zero_le 9, rfl, hcnt, hsr, ?_, hline⟩, rfl⟩
    rintro d ⟨⟩
    exact ⟨by omega, rfl⟩

theorem TxAt.align_row {d : Nat} (h : TxAt b (.align d) s) :
    ∃ u, SeqRow s u ∧ TxAt b (.settling (d - 1)) u ∧ u.trace = s.trace ++ [.nop] := by
  obtain ⟨-, hseq, hcnt, hsr, hdly, hline⟩ := h
  obtain ⟨hd, hd'⟩ := hdly d rfl
  unfold TxPos.settling
  split_ifs with h1
  · have hlast : s.dlyCnt = 1#3 := BitVec.toNat_eq.2 (by rw [hd']; change d = 1; omega)
    exact ⟨_, .txAlignLast hseq hlast, ⟨by decide, rfl, hcnt, hsr, nofun, hline⟩, rfl⟩
  · refine ⟨_, .txAlign hseq (by bv_omega) (by bv_omega),
      ⟨Nat.zero_le 9, rfl, hcnt, hsr, ?_, hline⟩, rfl⟩
    rintro d' ⟨⟩
    exact ⟨by omega, by bv_omega⟩

/-! ### One cycle -/

/-- A cycle of a WRITE that neither fails nor answers moves the position as `TxPos.next` says. -/
theorem TxAt.exists_next {p : TxPos} (h : TxAt b p s) (hpin : ∀ k, p = .drive k → s.pinSetAnswer = .ok)
    (hmore : p = .wait 9 → s.pollAnswer = .notYet) :
    ∃ u, SeqRow s u ∧ TxAt b (p.next s.nalign.toNat s.pollAnswer) u ∧
      u.trace = s.trace ++ [p.event b s.pollAnswer] := by
  cases p with
  | drive k => exact h.drive_ok (hpin k rfl)
  | treset => exact h.treset_row
  | align d => exact h.align_row
  | wait k =>
    cases ha : s.pollAnswer with
    | notYet =>
      exact ⟨_, seqRow_timerPoll h.isWait ha, h.wait_notYet, timerPoll_trace_of_answer ha⟩
    | elapsed =>
      have hk : k ≤ 9 := h.cell_le
      have hk9 : k ≠ 9 := by rintro rfl; simp [hmore rfl] at ha
      exact h.wait_elapsed (by omega) ha

/-- The sequencer is a function: a state has one row. -/
theorem SeqRow.unique (h : SeqRow s t) (h' : SeqRow s u) : t = u :=
  Host.Outcome.next.inj ((seqStep_of_row h).symm.trans (seqStep_of_row h'))

/-- What a cycle of a WRITE can be: it moves on, a drive fails, or the stop cell's wait ends. -/
theorem TxAt.row_cases {p : TxPos} (h : TxAt b p s) (hrow : SeqRow s u) :
    (TxAt b (p.next s.nalign.toNat s.pollAnswer) u ∧
      u.trace = s.trace ++ [p.event b s.pollAnswer]) ∨
    (∃ k e, p = .drive k ∧ u.trace = s.trace ++ [.txSet (cell b k) (.err e), .rsp (.errBus e)]) ∨
    (p = .wait 9 ∧ u.trace = s.trace ++ [.poll .elapsed, .rsp .okUnit]) := by
  by_cases hend : (∃ k e, p = .drive k ∧ s.pinSetAnswer = .err e) ∨
      (p = .wait 9 ∧ s.pollAnswer = .elapsed)
  · obtain ⟨k, e, rfl, ha⟩ | ⟨rfl, ha⟩ := hend
    · obtain rfl := hrow.unique (h.drive_err ha)
      exact .inr (.inl ⟨k, e, rfl, by simp [ha]⟩)
    · obtain rfl := hrow.unique (h.last_wait_elapsed ha)
      exact .inr (.inr ⟨rfl, by simp [ha]⟩)
  · obtain ⟨hdrive, hlast⟩ := not_or.1 hend
    obtain ⟨v, hv, hat, htr⟩ := h.exists_next
      (fun k hp => by
        cases ha : s.pinSetAnswer with
        | ok => rfl
        | err e => exact absurd ⟨k, e, hp, ha⟩ hdrive)
      (fun hp => by
        cases ha : s.pollAnswer with
        | notYet => rfl
        | elapsed => exact absurd ⟨hp, ha⟩ hlast)
    obtain rfl := hrow.unique hv
    exact .inl ⟨hat, htr⟩

end Sys2Proof.Machine
end

section
/-!
SUPPORT. The events of an answered WRITE: what has been sent at each position (41_transmit.md R112, R114), and
how a predicate that every cycle of a running command keeps decides what stands before its answer. Settles O41
and O42.
-/

namespace Sys2Proof.Machine

variable {s t u : State} {b : Byte} {p : TxPos} {nalign : BitVec 3} {mid : List Event}

/-! ### What has been sent at each position -/

/-- The events between `Cmd(WRITE b)` and the cycle about to be taken, at each position of the frame. -/
inductive Sent (nalign : BitVec 3) (b : Byte) : TxPos → List Event → Prop
  | drive (k : Nat) (w : Nat → Nat) : Sent nalign b (.drive k) (txCells nalign b w k)
  | treset : Sent nalign b .treset [.txSet (cell b 0) .ok]
  | align (d n : Nat) (h : n + d = nalign.toNat) :
      Sent nalign b (.align d) (.txSet (cell b 0) .ok :: .tReset :: List.replicate n .nop)
  | wait (k : Nat) (w : Nat → Nat) (n : Nat) : Sent nalign b (.wait k)
      (txCells nalign b w k ++ .txSet (cell b k) .ok :: cellClock nalign k ++
        List.replicate n (.poll .notYet))

/-- One cell more, with its wait. -/
theorem txCells_succ (nalign : BitVec 3) (b : Byte) (w : Nat → Nat) (k : Nat) :
    txCells nalign b w (k + 1) =
      txCells nalign b w k ++ (.txSet (cell b k) .ok :: cellClock nalign k ++ waitEvents (w k)) := by
  simp [txCells, List.range_succ]

/-- The first `k` cells depend on their own waits only. -/
theorem txCells_congr {w w' : Nat → Nat} {k : Nat} (h : ∀ j < k, w j = w' j) :
    txCells nalign b w k = txCells nalign b w' k :=
  List.flatMap_congr fun j hj => by rw [h j (List.mem_range.1 hj)]

/-- A wait of cell `k` that saw `n` answers `NOT_YET` ends: the cell is complete. -/
theorem txCells_complete (nalign : BitVec 3) (b : Byte) (w : Nat → Nat) (k n : Nat) :
    txCells nalign b w k ++ .txSet (cell b k) .ok :: cellClock nalign k ++
      List.replicate n (.poll .notYet) ++ [.poll .elapsed] =
        txCells nalign b (Function.update w k n) (k + 1) := by
  have hcongr : txCells nalign b (Function.update w k n) k = txCells nalign b w k :=
    txCells_congr fun j hj => Function.update_of_ne (Nat.ne_of_lt hj) n w
  rw [txCells_succ, hcongr]
  simp [waitEvents]

/-- The start cell up to its wait: no other cell comes before it. -/
theorem sent_wait_zero (nalign : BitVec 3) (b : Byte) : Sent nalign b (.wait 0)
    (.txSet (cell b 0) .ok :: .tReset :: List.replicate nalign.toNat .nop) := by
  simpa [txCells, cellClock] using Sent.wait (nalign := nalign) (b := b) 0 (fun _ => 0) 0

theorem sent_settling {d n : Nat} (h : n + d = nalign.toNat) : Sent nalign b (.settling d)
    (.txSet (cell b 0) .ok :: .tReset :: List.replicate n .nop) := by
  unfold TxPos.settling
  split_ifs with hd
  · obtain rfl : n = nalign.toNat := by omega
    exact sent_wait_zero nalign b
  · exact .align d n h

/-- One cycle more: the events sent are those of the next position. -/
theorem Sent.next (h : Sent nalign b p mid) (a : PollAnswer)
    (hd : ∀ d, p = .align d → 1 ≤ d) :
    Sent nalign b (p.next nalign.toNat a) (mid ++ [p.event b a]) := by
  cases h with
  | drive k w =>
    rcases k with _ | k
    · exact .treset
    · simpa [cellClock, TxPos.next, TxPos.event] using
        Sent.wait (nalign := nalign) (b := b) (k + 1) w 0
  | treset => exact sent_settling (n := 0) (by omega)
  | align d n h =>
    have hpos := hd d rfl
    simpa [List.replicate_succ', TxPos.next, TxPos.event] using
      sent_settling (b := b) (n := n + 1) (d := d - 1) (by omega)
  | wait k w n =>
    cases a with
    | notYet =>
      simpa [List.replicate_succ', TxPos.next, TxPos.event] using
        Sent.wait (nalign := nalign) (b := b) k w (n + 1)
    | elapsed =>
      rw [TxPos.event, txCells_complete]
      exact .drive (k + 1) _

/-! ### From the acceptance to the answer -/

/-- A cycle of a running command keeps `P` of the state and the events since the acceptance, and when it
answers, the events and the answer satisfy `C`. -/
inductive Continues (P : State → List Event → Prop) (C : List Event → Result → Prop) (s : State)
    (mid : List Event) (u : State) : Prop
  | operation (e : Event) (he : inner [e] = true) (ht : u.trace = s.trace ++ [e])
      (hP : P u (mid ++ [e]))
  | answer (e : Event) (r : Result) (he : inner [e] = true)
      (ht : u.trace = s.trace ++ [e, .rsp r]) (hC : C (mid ++ [e]) r)

/-- The state of a running command as the events since its acceptance describe it. -/
structure Tracks (P : State → List Event → Prop) (C : List Event → Result → Prop) : Prop where
  busy : ∀ {s mid}, P s mid → s.seq ≠ .idle
  edge : ∀ {s mid}, P s mid → P (clockEdge s) mid
  row : ∀ {s mid u}, P s mid → SeqRow s u → Continues P C s mid u

/-- No events of one command begin in an idle block: it accepts a command first. -/
theorem not_answer_of_idle {n : Nat} {r : Result} (hi : s.seq = .idle) (hrun : run n s = .next t)
    (hinner : inner mid = true) : t.trace ≠ s.trace ++ (mid ++ [.rsp r]) := by
  intro ht
  obtain ⟨evs, hevs, hlegal⟩ := run_extendsLegally hrun
  obtain rfl : mid ++ [.rsp r] = evs := List.append_cancel_left (ht.symm.trans hevs)
  have hidle : legalFrom .idle (mid ++ [.rsp r]) := by
    simpa [hi, Seq.activity, Seq.isTx, Seq.isRx] using hlegal [] (by trivial)
  obtain ⟨-, hrsp⟩ := (legalFrom_inner_append hinner).1 hidle
  exact ((legalFrom_rsp _ _ _).1 hrsp).1

/-- The events of a run begin with those of its first cycle. -/
theorem events_of_first_cycle {n : Nat} {evs new : List Event} (hu : u.trace = s.trace ++ new)
    (hrun : run n (clockEdge u) = .next t) (ht : t.trace = s.trace ++ evs) :
    ∃ more, evs = new ++ more ∧ t.trace = (clockEdge u).trace ++ more := by
  obtain ⟨more, hmore, -⟩ := run_extendsLegally hrun
  refine ⟨more, List.append_cancel_left (as := s.trace) ?_, hmore⟩
  rw [← ht, hmore, clockEdge_trace, hu, List.append_assoc]

theorem ne_rsp_of_inner {e : Event} {r : Result} (he : inner [e] = true) : e ≠ .rsp r := by
  rintro rfl
  cases he

/-- The answer of a command that has begun, by induction on the cycles until then. -/
theorem Tracks.answer {P : State → List Event → Prop} {C : List Event → Result → Prop}
    (hT : Tracks P C) {n : Nat} {rest : List Event} {r : Result} (hP : P s mid)
    (hrun : run n s = .next t) (hinner : inner rest = true)
    (ht : t.trace = s.trace ++ (rest ++ [.rsp r])) : C (mid ++ rest) r := by
  induction n generalizing s mid rest with
  | zero => cases hrun; simp at ht
  | succ n ih =>
    obtain ⟨v, hs, hrun⟩ := run_succ_cases hrun
    obtain ⟨u, rfl, hu⟩ := blockStep_of_step hs
    cases hu with
    | reset => exact absurd ht (not_answer_of_idle (s := clockEdge (resetBlock s)) rfl hrun hinner)
    | write _ _ _ hi | flush _ _ _ hi | read _ _ _ hi => exact absurd hi (hT.busy hP)
    | row _ _ hrow =>
      cases hT.row hP hrow with
      | operation e he hu hP =>
        obtain ⟨more, hevs, hmore⟩ := events_of_first_cycle hu hrun ht
        cases rest with
        | nil => exact absurd (List.cons.inj hevs).1.symm (ne_rsp_of_inner he)
        | cons e' rest =>
          obtain ⟨rfl, rfl⟩ := List.cons.inj hevs
          simpa using ih (hT.edge hP) hrun (inner_cons.1 hinner).2 hmore
      | answer e r' he hu hC =>
        obtain ⟨more, hevs, -⟩ := events_of_first_cycle hu hrun ht
        rcases rest with _ | ⟨e', _ | ⟨e'', rest⟩⟩
        · exact absurd (List.cons.inj hevs).1.symm (ne_rsp_of_inner he)
        · obtain ⟨rfl, rfl, -⟩ : e' = e ∧ r = r' ∧ [] = more := by simpa using hevs
          exact hC
        · obtain ⟨-, rfl, -⟩ : e' = e ∧ e'' = .rsp r' ∧ rest ++ [.rsp r] = more := by
            simpa using hevs
          exact absurd rfl (ne_rsp_of_inner (inner_cons.1 (inner_cons.1 hinner).2).1)

/-- Every answered command has an acceptance, before which the run leaves the trace and `NALIGN` as they
are. -/
theorem accepted_of_answered {n : Nat} {c : Command} {rest : List Event}
    (hrun : run n s = .next t) (ht : t.trace = s.trace ++ (.cmd c :: rest)) :
    ∃ s₀ u m, BlockStep s₀ u ∧ .cmd c ∈ newEvents s₀ u ∧ s₀.nalign = s.nalign ∧
      run m (clockEdge u) = .next t ∧ t.trace = s₀.trace ++ (.cmd c :: rest) := by
  induction n generalizing s with
  | zero => cases hrun; simp at ht
  | succ n ih =>
    obtain ⟨v, hs, hrun⟩ := run_succ_cases hrun
    obtain ⟨u, rfl, hu⟩ := blockStep_of_step hs
    obtain ⟨-, -, hnalign, -⟩ := hu.parameters
    by_cases hsilent : u.trace = s.trace
    · obtain ⟨s₀, u₀, m, hu₀, hmem, hn₀, hrun₀, ht₀⟩ :=
        ih hrun (by rwa [clockEdge_trace, hsilent])
      exact ⟨s₀, u₀, m, hu₀, hmem, hn₀.trans hnalign, hrun₀, ht₀⟩
    · refine ⟨s, u, n, hu, ?_, rfl, hrun, ht⟩
      obtain ⟨evs, -, hu', -⟩ := hu.unread (tr := []) (l := .low)
      obtain ⟨more, hevs, -⟩ := events_of_first_cycle hu' hrun ht
      cases evs with
      | nil => exact absurd (by simpa using hu') hsilent
      | cons e evs =>
        obtain ⟨rfl, -⟩ := List.cons.inj hevs
        simp [newEvents, hu']

/-- The acceptance of a WRITE loads its byte and begins its frame (R111). -/
theorem BlockStep.write_accepted (h : BlockStep s u) (hc : .cmd (.write b) ∈ newEvents s u) :
    TxAt b (.drive 0) u ∧ u.trace = s.trace ++ [.cmd (.write b)] := by
  cases h with
  | reset => exact absurd hc ((acceptsNothing_of_silent rfl).not_mem_newEvents _)
  | row _ _ hrow => exact absurd hc (hrow.acceptsNothing.not_mem_newEvents _)
  | @write w b' _ _ _ _ =>
    obtain rfl : b = b' := by simpa [newEvents] using hc
    exact ⟨txAt_accepted b s, rfl⟩
  | flush => simp [newEvents] at hc
  | read => simp [newEvents] at hc

/-! ### The answers of a WRITE -/

/-- What stands before each answer of a WRITE: all ten cells, or the cells before a failing drive. -/
inductive WriteAnswer (nalign : BitVec 3) (b : Byte) : List Event → Result → Prop
  | ok (w : Nat → Nat) : WriteAnswer nalign b (txCells nalign b w 10) .okUnit
  | err (k : Nat) (e : ErrCode) (w : Nat → Nat) (hk : k < 10) :
      WriteAnswer nalign b (txCells nalign b w k ++ [.txSet (cell b k) (.err e)]) (.errBus e)

/-- A running WRITE of `b` stands at a position and has sent the events up to there. -/
def Writing (nalign : BitVec 3) (b : Byte) (s : State) (mid : List Event) : Prop :=
  s.nalign = nalign ∧ ∃ p, TxAt b p s ∧ Sent nalign b p mid

theorem tracks_writing (nalign : BitVec 3) (b : Byte) :
    Tracks (Writing nalign b) (WriteAnswer nalign b) where
  busy := by
    rintro s mid ⟨-, p, hat, -⟩
    rw [hat.seq]
    exact p.seq_ne_idle
  edge := by
    rintro s mid ⟨rfl, p, hat, hsent⟩
    exact ⟨by simp, p, hat.clockEdge, hsent⟩
  row := by
    rintro s mid u ⟨rfl, p, hat, hsent⟩ hrow
    obtain ⟨-, -, hnalign, -⟩ := hrow.parameters
    obtain ⟨hnext, htr⟩ | ⟨k, e, rfl, htr⟩ | ⟨rfl, htr⟩ := hat.row_cases hrow
    · exact .operation _ (p.inner_event _ _) htr
        ⟨hnalign, _, hnext, hsent.next _ fun d hp => (hat.dlyCnt d hp).1⟩
    · have hk : k ≤ 9 := hat.cell_le
      cases hsent with
      | drive k w => exact .answer _ _ rfl htr (.err k e w (by omega))
    · cases hsent with
      | wait k w n => exact .answer _ _ rfl htr (by rw [txCells_complete]; exact .ok _)

/-- The events and the answer of every answered WRITE. -/
theorem Answered.writeAnswer {r : Result} (h : Answered s (.write b) mid r) :
    WriteAnswer s.nalign b mid r := by
  obtain ⟨n, t, hrun, htrace, hinner⟩ := h
  obtain ⟨s₀, u, m, hu, hmem, hnalign, hrun, htrace⟩ := accepted_of_answered hrun htrace
  obtain ⟨hat, htr⟩ := hu.write_accepted hmem
  obtain ⟨-, -, hu_nalign, -⟩ := hu.parameters
  obtain ⟨more, hmore, ht⟩ := events_of_first_cycle htr hrun htrace
  obtain ⟨-, rfl⟩ := List.cons.inj hmore
  have hP : Writing s.nalign b (clockEdge u) [] :=
    ⟨by simpa using hu_nalign.trans hnalign, _, hat.clockEdge, .drive 0 fun _ => 0⟩
  simpa using (tracks_writing s.nalign b).answer hP hrun hinner ht

/-- Settles O41: an answer that is an error has a failing drive before it. -/
theorem writeSuccessTrace : Obligations.WriteSuccessTrace := by
  intro s b mid r h hok
  cases h.writeAnswer with
  | ok w => exact ⟨rfl, w, rfl⟩
  | err k e w hk => simp [Event.isPinFailure] at hok

/-- Settles O42: every answer but `OK_UNIT` is that of a failing drive. -/
theorem writeFailureTrace : Obligations.WriteFailureTrace := by
  intro s b mid r h hr
  cases h.writeAnswer with
  | ok w => exact absurd rfl hr
  | err k e w hk => exact ⟨k, e, w, hk, rfl, rfl⟩

end Sys2Proof.Machine
end

section
/-!
SUPPORT. Runs under the reference timer in which nothing fails: calm inputs cycle by cycle, what each cycle of a
WRITE shows at the ports and in the trace (30_encoding.md R87), and how it moves the position and the timer
(40_timing_control.md R98).
-/

namespace Sys2Proof.Machine

variable {s t u v : State} {b : Byte} {p : TxPos} {n : Nat}

/-! ### Calm inputs -/

/-- In the next cycle there is no reset and the output pin does not fail. -/
theorem Calm.now (h : Calm (n + 1) s) : s.now.rstN = true ∧ s.pinSetAnswer = .ok := by
  obtain ⟨hn, hok, -⟩ := h.2 s.now (by simp)
  exact ⟨hn, pinSetAnswer_ok hok⟩

theorem Calm.mono {m : Nat} (h : Calm n s) (hm : m ≤ n) : Calm m s :=
  ⟨hm.trans h.1, fun q hq => h.2 q ((List.take_subset_take_left _ hm) hq)⟩

/-- After one cycle the inputs stay calm for the rest of the cycles. -/
theorem Calm.clockEdge (h : Calm (n + 1) s) (hu : u.later = s.later) :
    Calm n (Machine.clockEdge u) := by
  obtain ⟨hlen, hall⟩ := h
  cases n with
  | zero => exact ⟨by omega, by simp⟩
  | succ n =>
    cases hl : s.later with
    | nil => simp [hl] at hlen
    | cons q qs =>
      rw [hl] at hlen hall
      exact ⟨by simpa [hu, hl] using hlen,
        fun r hr => hall r (List.mem_cons_of_mem _ (by simpa [hu, hl] using hr))⟩

/-! ### Runs, one cycle more at the end -/

theorem run_succ_of_run (h : run n s = .next u) (hs : step u = .next v) :
    run (n + 1) s = .next v := by
  induction n generalizing s with
  | zero =>
    cases h
    rw [run_succ_of_step hs, run]
  | succ n ih =>
    obtain ⟨w, hw, hr⟩ := run_succ_cases h
    rw [run_succ_of_step hw]
    exact ih hr

/-! ### What a cycle of a WRITE shows -/

/-- The operation of each row of WRITE at the ports and in the trace, and where the answer is. -/
theorem SeqRow.shows_of_tx (h : SeqRow s t) (hq : s.seq.isTx = true) (hok : s.pinSetAnswer = .ok) :
    (t.out.txpReq = true ↔ s.seq = .txStart ∨ s.seq = .txData ∨ s.seq = .txStop) ∧
    (t.out.tmrReset = true ↔ s.seq = .txTreset) ∧
    (.nop ∈ newEvents s t ↔ s.seq = .txAlign) ∧
    (t.out.tmrPoll = true ↔ s.seq.isWait = true) ∧
    (.poll .elapsed ∈ newEvents s t ↔ s.seq.isWait = true ∧ s.pollAnswer = .elapsed) ∧
    (t.out.rspValid = true ↔ s.seq = .txWaitStop ∧ s.pollAnswer = .elapsed) ∧
    (t.cmdReady = true ↔ s.seq = .txWaitStop ∧ s.pollAnswer = .elapsed) := by
  cases h with
  | idle h | rxCheckErr _ h | rxCheckHigh h | rxCheckLow h | rxTresetSkip h | rxTreset h
  | rxAlignLast h | rxAlign h | rxWaitStart h | rxData _ h | rxDataErr _ h | rxWaitData h
  | rxWaitDataLast h | rxWaitStop h => simp [h, Seq.isTx] at hq
  | txStartErr _ _ ha | txDataErr _ _ ha | txStopErr _ _ ha => simp [hok] at ha
  | notYet h ha =>
    rcases h with h | h | h | h | h | h <;>
      simp [h, ha, newEvents, PortOut.quiet, Seq.isWait, State.cmdReady, State.busy]
  | txStart h ha | txData h ha | txStop h ha | txTresetSkip h | txTreset h | txAlignLast h
  | txAlign h | txWaitStart h ha | txWaitData h ha | txWaitDataLast h ha | txWaitStop h ha =>
    simp [*, newEvents, PortOut.quiet, Seq.isWait, State.cmdReady, State.busy]

namespace TxPos

/-- A position before a pin drive. -/
def isDrive : TxPos → Bool
  | drive _ => true
  | treset | align _ | wait _ => false

/-- A position before a no-operation cycle. -/
def isAlign : TxPos → Bool
  | align _ => true
  | drive _ | treset | wait _ => false

/-- A position before a poll. -/
def isWait : TxPos → Bool
  | wait _ => true
  | drive _ | treset | align _ => false

theorem seq_isTx (p : TxPos) : p.seq.isTx = true := by
  cases p with
  | drive k | wait k =>
    simp only [seq]
    split_ifs <;> rfl
  | treset | align d => rfl

/-- The state of `seq` tells the kind of position, and the stop cell's wait. -/
theorem seq_iff (p : TxPos) (hk : p.cellIndex ≤ 9) :
    (p.seq = .txStart ∨ p.seq = .txData ∨ p.seq = .txStop ↔ p.isDrive = true) ∧
    (p.seq = .txTreset ↔ p = .treset) ∧ (p.seq = .txAlign ↔ p.isAlign = true) ∧
    (p.seq.isWait = true ↔ p.isWait = true) ∧ (p.seq = .txWaitStop ↔ p = .wait 9) := by
  cases p with
  | drive k | wait k =>
    simp only [cellIndex] at hk
    simp only [seq, isDrive, isAlign, isWait]
    split_ifs <;> simp [Seq.isWait] <;> omega
  | treset | align d => simp [seq, isDrive, isAlign, isWait, Seq.isWait]

end TxPos

/-- The same by position: each operation stands at its own positions. -/
theorem TxAt.shows (h : TxAt b p s) (hrow : SeqRow s t) (hok : s.pinSetAnswer = .ok) :
    (t.out.txpReq = true ↔ p.isDrive = true) ∧ (t.out.tmrReset = true ↔ p = .treset) ∧
    (.nop ∈ newEvents s t ↔ p.isAlign = true) ∧ (t.out.tmrPoll = true ↔ p.isWait = true) ∧
    (.poll .elapsed ∈ newEvents s t ↔ p.isWait = true ∧ s.pollAnswer = .elapsed) ∧
    (t.out.rspValid = true ↔ p = .wait 9 ∧ s.pollAnswer = .elapsed) ∧
    (t.cmdReady = true ↔ p = .wait 9 ∧ s.pollAnswer = .elapsed) := by
  have hshows := hrow.shows_of_tx (by rw [h.seq, p.seq_isTx]) hok
  obtain ⟨hdrive, htreset, halign, hwait, hlast⟩ := p.seq_iff h.cell_le
  rwa [h.seq, hdrive, htreset, halign, hwait, hlast] at hshows

/-! ### One calm cycle -/

/-- A WRITE at a position under the reference timer, with nothing on the command port. -/
structure TimedAt (b : Byte) (p : TxPos) (s : State) : Prop extends TxAt b p s where
  port : s.cmdPort = none
  kind : s.timerKind = .contract

theorem TxAt.ne_idle (h : TxAt b p s) : s.seq ≠ .idle := by
  rw [h.seq]
  exact p.seq_ne_idle

theorem TimedAt.elapsed_iff (h : TimedAt b p s) : s.pollAnswer = .elapsed ↔ s.tFlag = true := by
  rw [pollAnswer_contract h.kind]
  split_ifs <;> simp [*]

/-- With nothing presented the cycle is a row of the step tables. -/
theorem TimedAt.blockStep (h : TimedAt b p s) (hc : Calm (n + 1) s) (hrow : SeqRow s u) :
    BlockStep s u :=
  .row hc.now.1 (by simp [h.port]) hrow

/-- The last cycle of a WRITE: `OK_UNIT` is answered, and the line keeps the stop bit (R113). -/
theorem TimedAt.last_step (h : TimedAt b (.wait 9) s) (hc : Calm (n + 1) s)
    (hf : s.tFlag = true) :
    ∃ t, step s = .next t ∧ t.seq = .idle ∧ t.txLine = .high ∧
      t.trace = s.trace ++ [.poll .elapsed, .rsp .okUnit] := by
  have ha := h.elapsed_iff.2 hf
  have hline : s.txLine = .high := h.txLine 9 rfl
  exact ⟨_, step_of_blockStep (h.blockStep hc (h.last_wait_elapsed ha)), by simp, by simpa,
    by simp [ha]⟩

/-- What one calm cycle does at position `p`, the command not answered in it: the position and the trace move
on, and the timer counts (R98). -/
structure TimedStep (b : Byte) (p : TxPos) (s t : State) : Prop where
  pos : TimedAt b (p.next s.nalign.toNat s.pollAnswer) t
  trace : t.trace = s.trace ++ [p.event b s.pollAnswer]
  period : t.period = s.period
  nalign : t.nalign = s.nalign
  tCnt : t.tCnt = if p = .treset then 0 else if s.tCnt = s.period - 1 then 0 else s.tCnt + 1
  tFlag : t.tFlag = if p = .treset then false else if s.tCnt = s.period - 1 then true
    else s.tFlag && !p.isWait

theorem TimedAt.step (h : TimedAt b p s) (hc : Calm (n + 1) s)
    (hmore : p = .wait 9 → s.tFlag = false) :
    ∃ t, step s = .next t ∧ Calm n t ∧ TimedStep b p s t := by
  have hok := hc.now.2
  obtain ⟨u, hrow, hu, htr⟩ := h.exists_next (fun _ _ => hok) fun hp => by
    simp [pollAnswer_contract h.kind, hmore hp]
  have hblock := h.blockStep hc hrow
  obtain ⟨hport, -, -, hlater, -⟩ := hrow.outside
  obtain ⟨hperiod, hkind, hnalign, -⟩ := hrow.parameters
  obtain ⟨-, hreset, -, hpoll, -⟩ := h.shows hrow hok
  have hpoll' : u.out.tmrPoll = p.isWait := Bool.eq_iff_iff.2 hpoll
  refine ⟨_, step_of_blockStep hblock, hc.clockEdge hlater, ⟨hu.clockEdge, ?_, ?_⟩, ?_, ?_, ?_, ?_, ?_⟩
  · rw [clockEdge_cmdPort_of_busy hu.ne_idle, hport, h.port]
  · rw [clockEdge_timerKind, hkind, h.kind]
  · rw [clockEdge_trace, htr]
  · rw [clockEdge_period, hperiod]
  · rw [clockEdge_nalign, hnalign]
  · rw [hblock.clockEdge_tCnt]
    simp only [hreset]
  · rw [hblock.clockEdge_tFlag h.kind, hpoll']
    simp only [hreset]

/-! ### The acceptance -/

/-- The first cycle of a presented WRITE (R38, R111). -/
theorem step_of_presents (h : Presents s (.write b)) (hk : s.timerKind = .contract)
    (hc : Calm (n + 1) s) :
    ∃ t, step s = .next t ∧ Calm n t ∧ TimedAt b (.drive 0) t ∧
      t.trace = s.trace ++ [.cmd (.write b)] ∧ t.txLine = s.txLine ∧ t.out = PortOut.quiet ∧
      t.period = s.period ∧ t.nalign = s.nalign := by
  obtain ⟨hi, hn, hp⟩ := h
  have hblock : BlockStep s _ := .write hn hp (decode_encode (.write b)) hi
  have hat := txAt_accepted b s
  exact ⟨_, step_of_blockStep hblock, hc.clockEdge rfl,
    ⟨hat.clockEdge, clockEdge_cmdPort_of_busy hat.ne_idle, hk⟩, rfl, rfl, rfl, rfl, rfl⟩

end Sys2Proof.Machine
end

section
/-!
SUPPORT. A WRITE ends: a bound on the cycles left at each position, which every cycle lowers (41_transmit.md
R119, 40_timing_control.md R98). Settles O52.
-/

namespace Sys2Proof.Machine

variable {s t : State} {b : Byte} {p : TxPos} {n : Nat} {nalign : BitVec 3} {mid : List Event}

/-! ### The cycles left -/

/-- The cycles until a poll of the reference timer finds the flag set. -/
def cyclesToFlag (s : State) : Nat := if s.tFlag then 0 else s.period - s.tCnt

/-- A bound on the cycles until the answer: every cell after the present one takes at most one drive, a whole
period and the poll that finds it elapsed. -/
def txCyclesLeft (s : State) : TxPos → Nat
  | .drive k => (if k = 0 then s.nalign.toNat + 1 else 0) + (10 - k) * (s.period + 2)
  | .treset => s.nalign.toNat + 10 * (s.period + 2)
  | .align d => d + (s.period + 1) + 9 * (s.period + 2)
  | .wait k => cyclesToFlag s + 1 + (9 - k) * (s.period + 2)

theorem cyclesToFlag_le (s : State) : cyclesToFlag s ≤ s.period := by
  unfold cyclesToFlag
  split_ifs <;> omega

theorem txCyclesLeft_pos (h : TxAt b p s) : 0 < txCyclesLeft s p := by
  have hk := h.cell_le
  cases p with
  | drive k =>
    have hpos : 0 < (10 - k) * (s.period + 2) := by
      simp only [TxPos.cellIndex] at hk
      exact Nat.mul_pos (by omega) (by omega)
    simp only [txCyclesLeft]
    omega
  | _ => simp only [txCyclesLeft]; omega

/-- The count is below the period once the WRITE has reset the timer (R90, R98). -/
def TimerSet (p : TxPos) (s : State) : Prop := p = .drive 0 ∨ p = .treset ∨ s.tCnt < s.period

theorem TimedStep.timerSet (h : TimedStep b p s t) (hp : 1 ≤ s.period) (hs : TimerSet p s) :
    TimerSet (p.next s.nalign.toNat s.pollAnswer) t := by
  obtain rfl | rfl | hlt := hs
  · exact .inr (.inl rfl)
  · exact .inr (.inr (by rw [h.tCnt, h.period, if_pos rfl]; omega))
  · refine .inr (.inr ?_)
    rw [h.tCnt, h.period]
    split_ifs <;> omega

theorem succ_cells_left {k : Nat} (P : Nat) (hk : k < 10) :
    (10 - k) * P = (9 - k) * P + P := by
  rw [← Nat.succ_mul]
  congr 1
  omega

/-- A cycle that leaves the flag unset brings its boundary nearer. -/
theorem TimedStep.cyclesToFlag_lt {k : Nat} (h : TimedStep b (.wait k) s t) (hf : s.tFlag = false)
    (hlt : s.tCnt < s.period) : cyclesToFlag t < cyclesToFlag s := by
  have htf := h.tFlag
  have htc := h.tCnt
  simp only [hf, reduceCtorEq, if_false, Bool.false_and] at htf htc
  simp only [cyclesToFlag, htf, htc, hf, h.period]
  split_ifs <;> simp_all
  omega

/-- At the wait of the start cell, or with no-operation cycles before it. -/
theorem txCyclesLeft_settling (d : Nat) :
    txCyclesLeft s (.settling d) ≤ d + (s.period + 1) + 9 * (s.period + 2) := by
  have hflag := cyclesToFlag_le s
  unfold TxPos.settling
  split_ifs <;> simp only [txCyclesLeft] <;> omega

/-- Every cycle lowers the bound. -/
theorem TimedStep.txCyclesLeft_lt (h : TimedStep b p s t) (hat : TimedAt b p s)
    (hs : TimerSet p s) (hmore : p = .wait 9 → s.tFlag = false) :
    txCyclesLeft t (p.next s.nalign.toNat s.pollAnswer) < txCyclesLeft s p := by
  have hperiod := h.period
  cases p with
  | drive k =>
    have hk : k ≤ 9 := hat.cell_le
    simp only [TxPos.next]
    split_ifs with h0
    · simp only [txCyclesLeft, h0, hperiod, h.nalign, if_true]
      omega
    · have hsucc := succ_cells_left (s.period + 2) (k := k) (by omega)
      have hflag := cyclesToFlag_le t
      simp only [txCyclesLeft, h0, hperiod, if_false]
      omega
  | treset =>
    have hle := txCyclesLeft_settling (s := t) s.nalign.toNat
    change txCyclesLeft t (.settling s.nalign.toNat) < s.nalign.toNat + 10 * (s.period + 2)
    omega
  | align d =>
    have hle := txCyclesLeft_settling (s := t) (d - 1)
    have hd := (hat.dlyCnt d rfl).1
    change txCyclesLeft t (.settling (d - 1)) < d + (s.period + 1) + 9 * (s.period + 2)
    omega
  | wait k =>
    have hlt : s.tCnt < s.period := by simpa [TimerSet] using hs
    cases hf : s.tFlag with
    | false =>
      have hnear := h.cyclesToFlag_lt hf hlt
      simp only [pollAnswer_contract hat.kind, hf, TxPos.next, txCyclesLeft, hperiod]
      simp
      omega
    | true =>
      have hk9 : k ≠ 9 := by rintro rfl; simp [hmore rfl] at hf
      simp [pollAnswer_contract hat.kind, hf, TxPos.next, txCyclesLeft, hperiod]

/-! ### The answer -/

/-- A WRITE at a position is answered `OK_UNIT` within the bound, after its ten cells. -/
theorem TimedAt.answered {tr : List Event} (hat : TimedAt b p s) (hp : 1 ≤ s.period)
    (hs : TimerSet p s) (hsent : Sent s.nalign b p mid) (htr : s.trace = tr ++ mid)
    (hn : txCyclesLeft s p ≤ n) (hc : Calm n s) :
    ∃ m ≤ n, ∃ t w, run m s = .next t ∧
      t.trace = tr ++ (txCells s.nalign b w 10 ++ [.rsp .okUnit]) ∧ t.txLine = .high ∧
      t.seq = .idle := by
  induction n generalizing s p mid with
  | zero => exact absurd (txCyclesLeft_pos hat.toTxAt) (by omega)
  | succ n ih =>
    by_cases hlast : p = .wait 9 ∧ s.tFlag = true
    · obtain ⟨rfl, hf⟩ := hlast
      obtain ⟨t, hstep, hi, hline, ht⟩ := hat.last_step hc hf
      cases hsent with
      | wait k w j =>
        refine ⟨1, by omega, t, Function.update w 9 j, run_succ_of_step hstep, ?_, hline, hi⟩
        rw [ht, htr, ← txCells_complete]
        simp
    · have hmore : p = .wait 9 → s.tFlag = false := fun hp => by simpa using fun hf => hlast ⟨hp, hf⟩
      obtain ⟨v, hstep, hcv, hv⟩ := hat.step hc hmore
      have hlt := hv.txCyclesLeft_lt hat hs hmore
      have hsent' : Sent v.nalign b (p.next s.nalign.toNat s.pollAnswer)
          (mid ++ [p.event b s.pollAnswer]) := by
        rw [hv.nalign]
        exact hsent.next _ fun d hp => (hat.dlyCnt d hp).1
      obtain ⟨m, hm, t, w, hrun, ht, hline, hi⟩ := ih hv.pos (by rwa [hv.period])
        (hv.timerSet hp hs) hsent' (by rw [hv.trace, htr, List.append_assoc]) (by omega) hcv
      exact ⟨m + 1, by omega, t, w, by rw [run_succ_of_step hstep, hrun],
        by rw [ht, hv.nalign], hline, hi⟩

/-! ### The events of ten cells -/

theorem inner_append (evs evs' : List Event) :
    inner (evs ++ evs') = (inner evs && inner evs') := by
  simp [inner]

theorem levelsDriven_append (evs evs' : List Event) :
    levelsDriven (evs ++ evs') = levelsDriven evs ++ levelsDriven evs' := by
  simp [levelsDriven]

theorem inner_cellEvents (nalign : BitVec 3) (v : Level) (k n : Nat) :
    inner (.txSet v .ok :: cellClock nalign k ++ waitEvents n) = true := by
  unfold cellClock waitEvents
  split_ifs <;> simp [inner, Event.isCmd, Event.isRsp]

theorem levelsDriven_cellEvents (nalign : BitVec 3) (v : Level) (k n : Nat) :
    levelsDriven (.txSet v .ok :: cellClock nalign k ++ waitEvents n) = [v] := by
  unfold cellClock waitEvents
  split_ifs <;> simp [levelsDriven]

theorem inner_txCells (nalign : BitVec 3) (b : Byte) (w : Nat → Nat) (k : Nat) :
    inner (txCells nalign b w k) = true := by
  induction k with
  | zero => rfl
  | succ k ih => rw [txCells_succ, inner_append, ih, inner_cellEvents]; rfl

theorem levelsDriven_txCells (nalign : BitVec 3) (b : Byte) (w : Nat → Nat) (k : Nat) :
    levelsDriven (txCells nalign b w k) = (List.range k).map (cell b) := by
  induction k with
  | zero => rfl
  | succ k ih =>
    rw [txCells_succ, levelsDriven_append, ih, levelsDriven_cellEvents, List.range_succ,
      List.map_append, List.map_singleton]

/-- Settles O52: the acceptance, then the bound on the cycles left at the first drive. -/
theorem writeIsAnsweredForEveryPeriod : Obligations.WriteIsAnsweredForEveryPeriod := by
  intro s b hpres hk hp hc
  obtain ⟨u, hstep, hcu, hat, htr, -, -, hperiod, hnalign⟩ := step_of_presents hpres hk hc
  have hleft : txCyclesLeft u (.drive 0) ≤ s.nalign.toNat + 10 * s.period + 23 := by
    simp only [txCyclesLeft, hperiod, hnalign, if_true]
    omega
  obtain ⟨m, hm, t, w, hrun, ht, hline, hi⟩ := hat.answered (tr := s.trace ++ [.cmd (.write b)])
    (by rwa [hperiod]) (.inl rfl) (.drive 0 fun _ => 0) (by simp [htr, txCells]) hleft hcu
  refine ⟨m + 1, t, txCells u.nalign b w 10, by omega, by rw [run_succ_of_step hstep, hrun], ?_,
    inner_txCells _ _ _ _, levelsDriven_txCells _ _ _ _, hline, hi⟩
  rw [ht, List.append_assoc]
  rfl

end Sys2Proof.Machine
end

section
/-!
SUPPORT. The timetable of a WRITE under the reference timer, for a period of at least `NALIGN` and 2 cycles: at
which position the WRITE stands in each cycle from its acceptance (70_reset_and_hazards.md R197, 41_transmit.md
R113). Settles O48 and O50.
-/

namespace Sys2Proof.Machine

variable {s t : State} {b : Byte} {p : TxPos} {n N P j k c c' : Nat}

/-! ### The timetable -/

/-- The position `c` cycles after the `k`-th period boundary since the `TimerReset()`: the no-operation cycles
and the wait of the start cell before the first boundary, and after each later one the poll that finds it,
the next drive, and the wait of that cell. -/
def slot (N k c : Nat) : TxPos :=
  if k = 0 then .settling (N - c)
  else if c = 0 then .wait (k - 1) else if c = 1 then .drive k else .wait k

/-- Only the first poll after a boundary finds it. -/
def slotAnswer (k c : Nat) : PollAnswer := if 1 ≤ k ∧ c = 0 then .elapsed else .notYet

theorem next_settling (N d : Nat) :
    (TxPos.settling d).next N .notYet = .settling (d - 1) := by
  by_cases hd : d = 0
  · subst hd
    rfl
  · simp [TxPos.settling, TxPos.next, hd]

theorem next_slot (N k c : Nat) : (slot N k c).next N (slotAnswer k c) = slot N k (c + 1) := by
  rcases k with _ | k
  · simp [slot, slotAnswer, next_settling, Nat.sub_sub]
  · rcases c with _ | _ | c <;> simp [slot, slotAnswer, TxPos.next]

/-- After a whole period the next one begins. -/
theorem slot_period (k : Nat) (hN : N ≤ P) (hP : 2 ≤ P) : slot N k P = slot N (k + 1) 0 := by
  have h0 : N - P = 0 := by omega
  have h1 : P ≠ 0 := by omega
  have h2 : P ≠ 1 := by omega
  rcases k with _ | k <;> simp [slot, TxPos.settling, h0, h1, h2]

theorem slot_ne_treset (N k c : Nat) : slot N k c ≠ .treset := by
  unfold slot TxPos.settling
  split_ifs <;> nofun

theorem isDrive_slot (N k c : Nat) : (slot N k c).isDrive = true ↔ 1 ≤ k ∧ c = 1 := by
  unfold slot TxPos.settling
  split_ifs <;> simp [TxPos.isDrive] <;> omega

theorem isAlign_slot (N k c : Nat) : (slot N k c).isAlign = true ↔ k = 0 ∧ c < N := by
  unfold slot TxPos.settling
  split_ifs <;> simp [TxPos.isAlign] <;> omega

theorem isWait_slot (N k c : Nat) :
    (slot N k c).isWait = true ↔ k = 0 ∧ N ≤ c ∨ 1 ≤ k ∧ c ≠ 1 := by
  unfold slot TxPos.settling
  split_ifs <;> simp [TxPos.isWait] <;> omega

theorem slot_last (N : Nat) (hk : 1 ≤ k) : slot N k 0 = .wait 9 ↔ k = 10 := by
  have h0 : k ≠ 0 := by omega
  simp only [slot, h0, if_false, if_true, TxPos.wait.injEq]
  omega

/-- The cell on the line (R113). -/
theorem lineCell_slot (N k c : Nat) :
    (slot N k c).lineCell = some (if c ≤ 1 then k - 1 else k) := by
  unfold slot TxPos.settling
  split_ifs <;> simp [TxPos.lineCell] <;> omega

/-! ### Periods and cycles -/

/-- A cycle has one number of whole periods before it and one number of cycles since. -/
theorem period_split_iff (hc : c < P) (hc' : c' < P) :
    k * P + c = j * P + c' ↔ k = j ∧ c = c' := by
  constructor
  · intro h
    obtain rfl : c = c' := by
      rw [← Nat.mul_add_mod_of_lt (a := k) hc, h, Nat.mul_add_mod_of_lt hc']
    exact ⟨Nat.eq_of_mul_eq_mul_right (by omega) (Nat.add_right_cancel h), rfl⟩
  · rintro ⟨rfl, rfl⟩
    rfl

/-- Ten periods: the tenth boundary is the last cycle of all. -/
theorem ten_periods (hc : c < P) (h : k * P + c ≤ 10 * P) : k < 10 ∨ k = 10 ∧ c = 0 := by
  have hk : k ≤ 10 := Nat.le_of_mul_le_mul_right (le_trans (Nat.le_add_right _ c) h) (by omega)
  obtain hlt | rfl := Nat.lt_or_eq_of_le hk
  · exact .inl hlt
  · exact .inr ⟨rfl, by omega⟩

/-- From its drive to the next one the line holds cell `j`: two cycles after each boundary the cell before
it ends. -/
theorem lineCell_eq (hP : 2 ≤ P) (hc : c < P) (hlo : j = 0 ∨ j * P + 2 ≤ k * P + c)
    (hhi : k * P + c < (j + 1) * P + 2) : (if c ≤ 1 then k - 1 else k) = j := by
  have hle : k ≤ j + 1 := by
    by_contra hlt
    have hmul : (j + 1 + 1) * P ≤ k * P := Nat.mul_le_mul_right P (by omega)
    rw [Nat.succ_mul] at hmul
    omega
  have hge : j ≤ k := by
    by_contra hlt
    have hmul : (k + 1) * P ≤ j * P := Nat.mul_le_mul_right P (by omega)
    rw [Nat.succ_mul] at hmul
    omega
  obtain rfl | rfl : k = j ∨ k = j + 1 := by omega
  · split_ifs <;> omega
  · split_ifs <;> omega

/-! ### The run follows the timetable -/

/-- A WRITE `c` cycles after its `k`-th boundary, its timer with it. -/
structure OnTime (b : Byte) (k c : Nat) (s : State) : Prop where
  pos : TimedAt b (slot s.nalign.toNat k c) s
  tCnt : s.tCnt = c
  tFlag : s.tFlag = decide (1 ≤ k ∧ c = 0)

theorem OnTime.pollAnswer (h : OnTime b k c s) : s.pollAnswer = slotAnswer k c := by
  rw [pollAnswer_contract h.pos.kind, h.tFlag]
  simp [slotAnswer]

/-- The flag is down but in the poll after a boundary. -/
theorem OnTime.flag_and_not_wait (h : OnTime b k c s) :
    (s.tFlag && !(slot s.nalign.toNat k c).isWait) = false := by
  cases hf : s.tFlag with
  | false => rfl
  | true =>
    obtain ⟨hk, rfl⟩ : 1 ≤ k ∧ c = 0 := by simpa [h.tFlag] using hf
    have hw := (isWait_slot s.nalign.toNat k 0).2 (.inr ⟨hk, by omega⟩)
    simp [hw]

/-- One calm cycle of the timetable. -/
theorem OnTime.step (h : OnTime b k c s) (hN : s.nalign.toNat ≤ s.period) (hP : 2 ≤ s.period)
    (hlt : c < s.period) (hk : k < 10) (hc : Calm (n + 1) s) :
    ∃ t, step s = .next t ∧ Calm n t ∧ t.period = s.period ∧ t.nalign = s.nalign ∧
      if c + 1 = s.period then OnTime b (k + 1) 0 t else OnTime b k (c + 1) t := by
  have hmore : slot s.nalign.toNat k c = .wait 9 → s.tFlag = false := by
    intro hw
    rw [h.tFlag, decide_eq_false_iff_not]
    rintro ⟨hk1, rfl⟩
    have := (slot_last s.nalign.toNat hk1).1 hw
    omega
  obtain ⟨t, hstep, hct, ht⟩ := h.pos.step hc hmore
  have hpos : TimedAt b (slot t.nalign.toNat k (c + 1)) t := by
    rw [ht.nalign, ← next_slot, ← h.pollAnswer]
    exact ht.pos
  have hcnt := ht.tCnt
  have hflag := ht.tFlag
  simp only [slot_ne_treset, if_false, h.tCnt, h.flag_and_not_wait] at hcnt hflag
  refine ⟨t, hstep, hct, ht.period, ht.nalign, ?_⟩
  split_ifs with hend
  · have hb : c = s.period - 1 := by omega
    rw [hend, slot_period k (by rwa [ht.nalign]) hP] at hpos
    exact ⟨hpos, by simpa [hb] using hcnt, by simpa [hb] using hflag⟩
  · have hb : c ≠ s.period - 1 := by omega
    exact ⟨hpos, by simpa [hb] using hcnt, by simpa [hb] using hflag⟩

/-- Where a WRITE stands at the beginning of cycle `m`, counted from its acceptance in cycle 0: the start bit's
drive, the timer's reset, and then the periods. -/
inductive Scheduled (b : Byte) (s : State) : Nat → Prop
  | start (h : TimedAt b (.drive 0) s) : Scheduled b s 1
  | reset (h : TimedAt b .treset s) : Scheduled b s 2
  | slot (k c : Nat) (h : OnTime b k c s) (hc : c < s.period) :
      Scheduled b s (3 + (k * s.period + c))

/-- One cycle more of the timetable, before the last one. -/
theorem Scheduled.step {m : Nat} (h : Scheduled b s m) (hN : s.nalign.toNat ≤ s.period)
    (hP : 2 ≤ s.period) (hm : m < 3 + 10 * s.period) (hc : Calm (n + 1) s) :
    ∃ t, step s = .next t ∧ Calm n t ∧ t.period = s.period ∧ t.nalign = s.nalign ∧
      Scheduled b t (m + 1) := by
  cases h with
  | start h =>
    obtain ⟨t, hstep, hct, ht⟩ := h.step hc nofun
    exact ⟨t, hstep, hct, ht.period, ht.nalign, .reset ht.pos⟩
  | reset h =>
    obtain ⟨t, hstep, hct, ht⟩ := h.step hc nofun
    have hpos : TimedAt b (Machine.slot t.nalign.toNat 0 0) t := by
      rw [ht.nalign]
      exact ht.pos
    have hslot := Scheduled.slot 0 0 ⟨hpos, ht.tCnt, ht.tFlag⟩ (by rw [ht.period]; omega)
    exact ⟨t, hstep, hct, ht.period, ht.nalign, by simpa using hslot⟩
  | slot k c h hlt =>
    obtain hk | ⟨rfl, rfl⟩ := ten_periods (k := k) hlt (by omega)
    · obtain ⟨t, hstep, hct, hperiod, hnalign, ht⟩ := h.step hN hP hlt hk hc
      refine ⟨t, hstep, hct, hperiod, hnalign, ?_⟩
      rw [← hperiod] at hlt ht ⊢
      split_ifs at ht with hend
      · have hslot := Scheduled.slot (k + 1) 0 ht (by omega)
        rw [Nat.succ_mul] at hslot
        convert hslot using 1
        omega
      · exact .slot k (c + 1) ht (by omega)
    · omega

/-- A calm run of a presented WRITE follows the timetable to its last cycle. -/
theorem run_scheduled (hpres : Presents s (.write b)) (hk : s.timerKind = .contract)
    (hN : s.nalign.toNat ≤ s.period) (hP : 2 ≤ s.period) (hc : Calm (4 + 10 * s.period) s) {m : Nat}
    (h1 : 1 ≤ m) (hm : m < 4 + 10 * s.period) :
    ∃ u, run m s = .next u ∧ Calm (4 + 10 * s.period - m) u ∧ u.period = s.period ∧
      u.nalign = s.nalign ∧ Scheduled b u m := by
  induction m, h1 using Nat.le_induction with
  | base =>
    obtain ⟨u, hstep, hcu, hat, -, -, -, hperiod, hnalign⟩ :=
      step_of_presents (n := 4 + 10 * s.period - 1) hpres hk (hc.mono (by omega))
    exact ⟨u, run_succ_of_step hstep, hcu, hperiod, hnalign, .start hat⟩
  | succ m h1 ih =>
    obtain ⟨u, hrun, hcu, hperiod, hnalign, hu⟩ := ih (by omega)
    obtain ⟨v, hstep, hcv, hvp, hvn, hv⟩ := hu.step (n := 4 + 10 * s.period - (m + 1))
      (by rwa [hperiod, hnalign]) (by rwa [hperiod]) (by rw [hperiod]; omega) (hcu.mono (by omega))
    exact ⟨v, run_succ_of_run hrun hstep, hcv, hvp.trans hperiod, hvn.trans hnalign, hv⟩

/-! ### The line -/

/-- From the start bit's drive on, cell `j` stands on the line from two cycles after its boundary to one cycle
after the next (R113). -/
theorem Scheduled.txLine {m : Nat} (h : Scheduled b s m) (hP : 2 ≤ s.period) (hm : 2 ≤ m)
    (hlo : j = 0 ∨ 5 + j * s.period ≤ m) (hhi : m < 5 + (j + 1) * s.period) :
    s.txLine = cell b j := by
  cases h with
  | start => omega
  | reset h =>
    obtain rfl : j = 0 := hlo.resolve_right (by omega)
    exact h.txLine 0 rfl
  | slot k c h hc =>
    have hcell := lineCell_eq (j := j) (k := k) hP hc (by omega) (by omega)
    exact h.pos.txLine j (by rw [lineCell_slot, hcell])

/-- The last cycle of the timetable is the poll that ends the stop cell. -/
theorem Scheduled.last {m : Nat} (h : Scheduled b s m) (hP : 2 ≤ s.period)
    (hm : m = 3 + 10 * s.period) : TimedAt b (.wait 9) s ∧ s.tFlag = true := by
  cases h with
  | start => omega
  | reset => omega
  | slot k c h hc =>
    obtain ⟨rfl, rfl⟩ : k = 10 ∧ c = 0 := (period_split_iff hc (by omega)).1 (by omega)
    exact ⟨h.pos, h.tFlag⟩

/-- Settles O50: the line of the timetable, and the answer leaves it as it is. -/
theorem writeHoldsEachCell : Obligations.WriteHoldsEachCell := by
  intro s b hpres hk hN hP hc m hm
  obtain rfl | hlt | rfl : m = 0 ∨ (1 ≤ m ∧ m < 3 + 10 * s.period) ∨ m = 3 + 10 * s.period := by
    omega
  · obtain ⟨t, hstep, -, -, -, hline, -⟩ :=
      step_of_presents (n := 3 + 10 * s.period) hpres hk (hc.mono (by omega))
    exact ⟨t, run_succ_of_step hstep, fun _ => hline, by omega, by omega, by omega⟩
  · obtain ⟨t, hrun, -, hperiod, -, ht⟩ :=
      run_scheduled hpres hk hN hP hc (m := m + 1) (by omega) (by omega)
    have hcell := fun j => ht.txLine (j := j) (by rwa [hperiod]) (by omega)
    rw [hperiod] at hcell
    exact ⟨t, hrun, by omega, fun _ h => hcell 0 (.inl rfl) (by omega),
      fun k _ _ hlo hhi => hcell k (.inr (by omega)) (by omega),
      fun hlo => hcell 9 (.inr (by omega)) (by omega)⟩
  · obtain ⟨u, hrun, hcu, hperiod, -, hu⟩ := run_scheduled hpres hk hN hP hc (by omega) hm
    obtain ⟨hat, hf⟩ := hu.last (by rwa [hperiod]) (by rw [hperiod])
    obtain ⟨t, hstep, -, hline, -⟩ := hat.last_step (n := 0) (hcu.mono (by omega)) hf
    refine ⟨t, run_succ_of_run hrun hstep, by omega, by omega, fun k _ hk _ hhi => ?_, fun _ => hline⟩
    have hmul : (k + 1) * s.period ≤ 9 * s.period := Nat.mul_le_mul_right _ (by omega)
    omega

/-! ### The ports and the trace -/

/-- Every calm cycle of a WRITE is a step, and shows the operation of its position. -/
theorem TimedAt.exists_step (h : TimedAt b p s) (hc : Calm (n + 1) s) :
    ∃ t, Machine.step s = .next t ∧
      (t.out.txpReq = true ↔ p.isDrive = true) ∧ (t.out.tmrReset = true ↔ p = .treset) ∧
      (.nop ∈ newEvents s t ↔ p.isAlign = true) ∧ (t.out.tmrPoll = true ↔ p.isWait = true) ∧
      (.poll .elapsed ∈ newEvents s t ↔ p.isWait = true ∧ s.tFlag = true) ∧
      (t.out.rspValid = true ↔ p = .wait 9 ∧ s.tFlag = true) ∧
      (t.cmdReady = true ↔ p = .wait 9 ∧ s.tFlag = true) := by
  obtain ⟨u, hrow⟩ : ∃ u, SeqRow s u := by
    by_cases hlast : p = .wait 9 ∧ s.pollAnswer = .elapsed
    · obtain ⟨rfl, ha⟩ := hlast
      exact ⟨_, h.last_wait_elapsed ha⟩
    · obtain ⟨u, hrow, -⟩ := h.exists_next (fun _ _ => hc.now.2) fun hp => by
        cases ha : s.pollAnswer with
        | notYet => rfl
        | elapsed => exact absurd ⟨hp, ha⟩ hlast
      exact ⟨u, hrow⟩
  have hshows := h.shows hrow hc.now.2
  rw [h.elapsed_iff] at hshows
  refine ⟨_, step_of_blockStep (h.blockStep hc hrow), ?_⟩
  simpa [State.cmdReady, State.busy] using hshows

/-- The column WRITE of the table of R197 in cycle `m`: a step from `s` to `t` shows what the table says. -/
def ShowsWriteCycle (m N P : Nat) (s t : State) : Prop :=
  (t.out.txpReq = true ↔ m = 1 ∨ ∃ j, 1 ≤ j ∧ j ≤ 9 ∧ m = 4 + j * P) ∧
  (t.out.tmrReset = true ↔ m = 2) ∧
  (.nop ∈ newEvents s t ↔ 3 ≤ m ∧ m ≤ 2 + N) ∧
  (t.out.tmrPoll = true ↔ 3 + N ≤ m ∧ ∀ j, 1 ≤ j → j ≤ 9 → m ≠ 4 + j * P) ∧
  (.poll .elapsed ∈ newEvents s t ↔ ∃ k, 1 ≤ k ∧ k ≤ 10 ∧ m = 3 + k * P) ∧
  (t.out.rspValid = true ↔ m = 3 + 10 * P) ∧ (t.cmdReady = true ↔ m = 3 + 10 * P)

/-- The drives after the first: one cycle after each of the first nine boundaries. -/
theorem drive_cycle_iff (hP : 2 ≤ P) (hc : c < P) (hle : k * P + c ≤ 10 * P) :
    (∃ j, 1 ≤ j ∧ j ≤ 9 ∧ 3 + (k * P + c) = 4 + j * P) ↔ 1 ≤ k ∧ c = 1 := by
  constructor
  · rintro ⟨j, h1, -, h⟩
    obtain ⟨rfl, rfl⟩ := (period_split_iff hc (by omega : 1 < P)).1 (by omega : k * P + c = j * P + 1)
    exact ⟨h1, rfl⟩
  · rintro ⟨h1, rfl⟩
    obtain hk | ⟨-, h⟩ := ten_periods hc hle
    · exact ⟨k, h1, by omega, by omega⟩
    · omega

/-- The cycle of the `j`-th boundary. -/
theorem boundary_cycle_iff (hc : c < P) : 3 + (k * P + c) = 3 + j * P ↔ k = j ∧ c = 0 := by
  rw [← period_split_iff hc (by omega : 0 < P)]
  omega

/-- Before the first period the table has a drive in cycle 1 and the timer's reset in cycle 2. -/
theorem showsWriteCycle_of_lt {m : Nat} (hm : m < 3) (hdrive : t.out.txpReq = true ↔ m = 1)
    (hreset : t.out.tmrReset = true ↔ m = 2) (hnop : .nop ∉ newEvents s t)
    (hpoll : t.out.tmrPoll = false) (helapsed : .poll .elapsed ∉ newEvents s t)
    (hrsp : t.out.rspValid = false) (hready : t.cmdReady = false) :
    ShowsWriteCycle m N P s t := by
  refine ⟨hdrive.trans (or_iff_left ?_).symm, hreset, iff_of_false hnop (by omega),
    iff_of_false (by simp [hpoll]) (by omega), iff_of_false helapsed ?_,
    iff_of_false (by simp [hrsp]) (by omega), iff_of_false (by simp [hready]) (by omega)⟩
  · rintro ⟨j, -, -, h⟩
    omega
  · rintro ⟨j, -, -, h⟩
    omega

/-- The table in the periods, operation by operation. -/
theorem OnTime.shows (h : OnTime b k c s) (hN : s.nalign.toNat ≤ s.period) (hP : 2 ≤ s.period)
    (hlt : c < s.period) (hle : k * s.period + c ≤ 10 * s.period) (hc : Calm (n + 1) s) :
    ∃ t, Machine.step s = .next t ∧
      ShowsWriteCycle (3 + (k * s.period + c)) s.nalign.toNat s.period s t := by
  have hflag : s.tFlag = true ↔ 1 ≤ k ∧ c = 0 := by simp [h.tFlag]
  have hlater : k = 0 ∨ 1 ≤ k ∧ s.period ≤ k * s.period := by
    rcases k with _ | k
    · exact .inl rfl
    · exact .inr ⟨by omega, Nat.le_mul_of_pos_left _ (by omega)⟩
  have hlast : slot s.nalign.toNat k c = .wait 9 ∧ s.tFlag = true ↔
      3 + (k * s.period + c) = 3 + 10 * s.period := by
    rw [hflag, boundary_cycle_iff hlt]
    constructor
    · rintro ⟨hw, hk, rfl⟩
      exact ⟨(slot_last _ hk).1 hw, rfl⟩
    · rintro ⟨rfl, rfl⟩
      exact ⟨rfl, by omega, rfl⟩
  have hnot : (∀ j, 1 ≤ j → j ≤ 9 → 3 + (k * s.period + c) ≠ 4 + j * s.period) ↔
      ¬ (1 ≤ k ∧ c = 1) := by
    rw [← drive_cycle_iff hP hlt hle]
    simp only [not_exists, not_and, ne_eq]
  obtain ⟨t, hstep, hdrive, hreset, hnop, hpoll, helapsed, hrsp, hready⟩ := h.pos.exists_step hc
  refine ⟨t, hstep, hdrive.trans ?_, hreset.trans ?_, hnop.trans ?_, hpoll.trans ?_,
    helapsed.trans ?_, hrsp.trans hlast, hready.trans hlast⟩
  · rw [isDrive_slot, ← drive_cycle_iff hP hlt hle, or_iff_right (by omega)]
  · exact iff_of_false (slot_ne_treset _ _ _) (by omega)
  · rw [isAlign_slot]
    obtain rfl | ⟨hk, hmul⟩ := hlater <;> omega
  · rw [isWait_slot, hnot]
    obtain rfl | ⟨hk, hmul⟩ := hlater <;> omega
  · rw [isWait_slot, hflag]
    simp only [boundary_cycle_iff hlt]
    constructor
    · rintro ⟨-, hk, rfl⟩
      obtain h9 | ⟨h10, -⟩ := ten_periods hlt hle
      · exact ⟨k, hk, by omega, rfl, rfl⟩
      · exact ⟨k, hk, by omega, rfl, rfl⟩
    · rintro ⟨j, hj, -, rfl, rfl⟩
      exact ⟨.inr ⟨hj, by omega⟩, hj, rfl⟩

/-- The table in every cycle after the acceptance. -/
theorem Scheduled.shows {m : Nat} (h : Scheduled b s m) (hN : s.nalign.toNat ≤ s.period)
    (hP : 2 ≤ s.period) (hm : m < 4 + 10 * s.period) (hc : Calm (n + 1) s) :
    ∃ t, Machine.step s = .next t ∧ ShowsWriteCycle m s.nalign.toNat s.period s t := by
  cases h with
  | slot k c h hlt => exact h.shows hN hP hlt (by omega) hc
  | start h | reset h =>
    obtain ⟨t, hstep, hdrive, hreset, hnop, hpoll, helapsed, hrsp, hready⟩ := h.exists_step hc
    simp only [TxPos.isDrive, TxPos.isAlign, TxPos.isWait, reduceCtorEq, false_and, iff_true,
      iff_false, Bool.not_eq_true] at hdrive hreset hnop hpoll helapsed hrsp hready
    exact ⟨t, hstep, showsWriteCycle_of_lt (by omega) (by simp [hdrive]) (by simp [hreset]) hnop
      hpoll helapsed hrsp hready⟩

/-- Settles O48: the acceptance shows nothing, and then the timetable gives the table. -/
theorem writeCycleCounts : Obligations.WriteCycleCounts := by
  intro s b hpres hk hN hP hc m hm
  rcases Nat.eq_zero_or_pos m with rfl | h1
  · obtain ⟨t, hstep, -, hat, htr, -, hout, -⟩ :=
      step_of_presents (n := 3 + 10 * s.period) hpres hk (hc.mono (by omega))
    have hready : t.cmdReady = false := by simp [State.cmdReady, busy_eq_true.2 hat.ne_idle]
    refine ⟨s, t, rfl, hstep, showsWriteCycle_of_lt (by omega) ?_ ?_ ?_ ?_ ?_ ?_ hready⟩ <;>
      simp [hout, htr, newEvents, PortOut.quiet]
  · obtain ⟨u, hrun, hcu, hperiod, hnalign, hu⟩ := run_scheduled hpres hk hN hP hc h1 hm
    obtain ⟨v, hstep, hshows⟩ := hu.shows (n := 0) (by rwa [hperiod, hnalign]) (by rwa [hperiod])
      (by rwa [hperiod]) (hcu.mono (by omega))
    rw [hperiod, hnalign] at hshows
    exact ⟨u, v, hrun, hstep, hshows⟩

end Sys2Proof.Machine
end

section
/-!
SUPPORT. The invariant of 10_state.md R40 along every step: the shift registers, the counters and the output
ports after each row of the step tables (R38, R80, R81), and the bits of the receive shift register
(42_receive.md R135, R136). Settles O31 and O33.
-/

namespace Sys2Proof.Machine

variable {s t u : State} {b : Byte} {c : BitVec 4}

/-! ### The receive shift register -/

/-- A sample enters at bit 7 (R136). -/
theorem getLsbD_shiftIn_seven (v : Level) (b : Byte) : (shiftIn v b).getLsbD 7 = bitOfLevel v := by
  cases v <;> simp [shiftIn, shiftOut, bitOfLevel]

/-- The other bits move down by one place. -/
theorem getLsbD_shiftIn_of_lt (v : Level) (b : Byte) {i : Nat} (hi : i < 7) :
    (shiftIn v b).getLsbD i = b.getLsbD (i + 1) := by
  have low_bits : ∀ j < 7, (0x80#8).getLsbD j = false := by decide
  cases v with
  | low => rw [shiftIn, shiftOut, BitVec.getLsbD_ushiftRight, Nat.add_comm]
  | high =>
    rw [shiftIn, shiftOut, BitVec.getLsbD_or, low_bits i hi, Bool.or_false,
      BitVec.getLsbD_ushiftRight, Nat.add_comm]

/-- The same as a number: halve, and add the sample's bit 7. -/
theorem toNat_shiftIn (v : Level) (b : Byte) :
    (shiftIn v b).toNat = b.toNat / 2 + 128 * (bitOfLevel v).toNat := by
  have hb := b.isLt
  cases v with
  | low => simp [shiftIn, shiftOut, bitOfLevel, Nat.shiftRight_eq_div_pow]
  | high =>
    have hadd : 2 ^ 7 * 1 + b.toNat / 2 = 2 ^ 7 * 1 ||| b.toNat / 2 :=
      Nat.two_pow_add_eq_or_of_lt (by omega) 1
    calc (shiftIn .high b).toNat
        = 2 ^ 7 * 1 ||| b.toNat / 2 := by
          rw [shiftIn, shiftOut, BitVec.or_comm, BitVec.toNat_or, BitVec.toNat_ushiftRight,
            Nat.shiftRight_eq_div_pow]
          rfl
      _ = b.toNat / 2 + 128 := by omega

/-- Settles O31: eight halvings leave nothing of the first value, and sample `k` is halved `7 - k` times. -/
theorem sampledByte : Obligations.SampledByte := by
  intro r₀ s₀ s₁ s₂ s₃ s₄ s₅ s₆ s₇
  have hr := r₀.isLt
  simp only [List.foldl_cons, List.foldl_nil, toNat_shiftIn]
  omega

/-! ### The registers, row by row -/

/-- After the drive of bit `c` one more bit of `tx_sr` at the top is zero (R40 (b)). -/
theorem shiftOut_ushiftRight (hc : c ≤ 7#4) :
    shiftOut b >>> (7 - c.toNat) = b >>> (8 - c.toNat) := by
  have hle : c.toNat ≤ 7 := hc
  rw [shiftOut, ← BitVec.shiftRight_add]
  congr 1
  omega

/-- After sample `c` the bits below the samples are zero still (R40 (c)). -/
theorem shiftIn_shiftLeft (v : Level) (h : b <<< c.toNat = 0#8) :
    shiftIn v b <<< (c.toNat + 1) = 0#8 := by
  refine BitVec.eq_of_getLsbD_eq fun i hi => ?_
  have hbit : (b <<< c.toNat).getLsbD i = false := by simp [h]
  by_cases hlt : i < c.toNat + 1
  · simp [hlt]
  · have hpos : i - (c.toNat + 1) + 1 = i - c.toNat := by omega
    rw [BitVec.getLsbD_shiftLeft] at hbit ⊢
    rw [getLsbD_shiftIn_of_lt v b (by omega), hpos]
    simpa [hi, hlt, show ¬ i < c.toNat by omega] using hbit

theorem toNat_add_one (hc : c < 7#4) : (c + 1#4).toNat = c.toNat + 1 ∧ c + 1#4 ≤ 7#4 := by
  constructor <;> bv_omega

theorem align_count_le {n d : BitVec 3} (h0 : d ≠ 0#3) (h1 : d ≠ 1#3) (hn : d ≤ n) :
    1#3 ≤ d - 1#3 ∧ d - 1#3 ≤ n := by
  constructor <;> bv_omega

theorem align_start_le {n : BitVec 3} (h0 : n ≠ 0#3) : 1#3 ≤ n := by
  bv_omega

/-- Every row keeps what R40 says of the registers. -/
theorem SeqRow.keeps_seqInv (h : SeqRow s t) (hs : seqInv s = true) : seqInv t = true := by
  cases h with
  | idle h => simp [seqInv, h]
  | notYet => exact hs
  | txTreset h hn | rxTreset h hn =>
    simpa [seqInv, h, align_start_le hn] using hs
  | txAlign h h0 h1 | rxAlign h h0 h1 =>
    simp only [seqInv, h, Bool.and_eq_true, decide_eq_true_eq] at hs
    obtain ⟨⟨hreg, -⟩, hle⟩ := hs
    simpa [seqInv, align_count_le h0 h1 hle] using hreg
  | txAlignLast h | rxAlignLast h =>
    simp only [seqInv, h, Bool.and_eq_true] at hs
    obtain ⟨⟨hreg, -⟩, -⟩ := hs
    simpa [seqInv] using hreg
  | txWaitStart h =>
    have hcnt : s.txCnt = 0#4 := by simpa [seqInv, h] using hs
    simp [seqInv, hcnt, BitVec.ushiftRight_eq_zero]
  | rxWaitStart h =>
    obtain ⟨hcnt, hsr⟩ : s.rxCnt = 0#4 ∧ s.rxSr = 0#8 := by simpa [seqInv, h] using hs
    simp [seqInv, hcnt, hsr]
  | txData h =>
    obtain ⟨hc, hsr⟩ : s.txCnt ≤ 7#4 ∧ s.txSr >>> (8 - s.txCnt.toNat) = 0#8 := by
      simpa [seqInv, h] using hs
    simp [seqInv, hc, shiftOut_ushiftRight hc, hsr]
  | txWaitData h _ hc =>
    obtain ⟨-, hsr⟩ : s.txCnt ≤ 7#4 ∧ s.txSr >>> (7 - s.txCnt.toNat) = 0#8 := by
      simpa [seqInv, h] using hs
    obtain ⟨hnat, hle⟩ := toNat_add_one hc
    simp [seqInv, hle, hnat, hsr]
  | txWaitDataLast h _ hc => simpa [seqInv, h, hc] using hs
  | rxData v h =>
    obtain ⟨hc, hsr⟩ : s.rxCnt ≤ 7#4 ∧ s.rxSr <<< s.rxCnt.toNat = 0#8 := by
      simpa [seqInv, h] using hs
    simp [seqInv, hc, shiftIn_shiftLeft v hsr]
  | rxWaitData h _ hc =>
    obtain ⟨-, hsr⟩ : s.rxCnt ≤ 7#4 ∧ s.rxSr <<< (s.rxCnt.toNat + 1) = 0#8 := by
      simpa [seqInv, h] using hs
    obtain ⟨hnat, hle⟩ := toNat_add_one hc
    simp [seqInv, hle, hnat, hsr]
  | txStartErr | txDataErr | txStopErr | txWaitStop | rxCheckErr | rxCheckHigh | rxDataErr
  | rxWaitStop | rxWaitDataLast => rfl
  | txStart h | txTresetSkip h | rxTresetSkip h | rxCheckLow h | txStop h =>
    simpa [seqInv, h] using hs

/-! ### The output ports, row by row -/

theorem outInv_quiet (s : State) : outInv (quiet s) = true := by simp [outInv, PortOut.quiet]

theorem outInv_pinSet (v : Level) (s : State) : outInv (pinSet v s) = true := by
  simp [outInv, PortOut.quiet]

theorem outInv_pinGet (s : State) : outInv (pinGet s) = true := by simp [outInv, PortOut.quiet]

theorem outInv_timerReset (s : State) : outInv (timerReset s) = true := by
  simp [outInv, PortOut.quiet]

theorem outInv_timerPoll (s : State) : outInv (timerPoll s) = true := by
  simp [outInv, PortOut.quiet]

/-- An answer names one result beside the operation of its cycle (R80, R81). -/
theorem outInv_finish {r : Result} (h : outInv s = true) (hr : rspErrOf r < 2 ^ s.ew) :
    outInv (finish r s) = true := by
  simp only [outInv, Bool.and_eq_true] at h
  obtain ⟨⟨-, hdrive⟩, hone⟩ := h
  cases r <;> simp_all [outInv]

theorem pinSetAnswer_err_lt {e : ErrCode} (h : s.pinSetAnswer = .err e) : e < 2 ^ s.ew := by
  unfold State.pinSetAnswer at h
  split_ifs at h
  cases h
  exact portErr_lt _ _

theorem pinGetAnswer_err_lt {e : ErrCode} (h : s.pinGetAnswer = .err e) : e < 2 ^ s.ew := by
  unfold State.pinGetAnswer at h
  split_ifs at h
  cases h
  exact portErr_lt _ _

/-- Every row drives the outputs of one operation, and at most one result. -/
theorem SeqRow.meets_outInv (h : SeqRow s t) : outInv t = true := by
  have hpos : 0 < 2 ^ s.ew := Nat.two_pow_pos _
  cases h with
  | idle | txAlignLast | txAlign | rxAlignLast | rxAlign => exact outInv_quiet s
  | txStart | txData | txStop => exact outInv_pinSet _ s
  | rxCheckLow | rxData => exact outInv_pinGet s
  | txTresetSkip | txTreset | rxTresetSkip | rxTreset => exact outInv_timerReset s
  | notYet | txWaitStart | txWaitData | txWaitDataLast | rxWaitStart | rxWaitData
  | rxWaitDataLast => exact outInv_timerPoll s
  | txWaitStop | rxWaitStop => exact outInv_finish (outInv_timerPoll s) hpos
  | txStartErr e _ ha | txDataErr e _ ha | txStopErr e _ ha =>
    exact outInv_finish (outInv_pinSet _ s) (pinSetAnswer_err_lt ha)
  | rxCheckErr e _ ha => exact outInv_finish (outInv_pinGet s) (pinGetAnswer_err_lt ha)
  | rxDataErr e _ ha =>
    exact outInv_finish (s := { pinGet s with rxSr := shiftOut s.rxSr }) (outInv_pinGet s)
      (pinGetAnswer_err_lt ha)
  | rxCheckHigh => exact outInv_finish (outInv_pinGet s) hpos

/-! ### Every step -/

theorem BlockStep.keeps_seqInv (h : BlockStep s u) (hs : seqInv s = true) : seqInv u = true := by
  cases h with
  | row _ _ h => exact h.keeps_seqInv hs
  | _ => rfl

theorem BlockStep.meets_outInv (h : BlockStep s u) : outInv u = true := by
  cases h with
  | row _ _ h => exact h.meets_outInv
  | flush => exact outInv_finish (outInv_quiet s) (Nat.two_pow_pos _)
  | _ => exact outInv_quiet s

/-- Settles O33: the block keeps the registers and the ports, and the timer keeps its count. -/
theorem stepKeepsTheInvariant : Obligations.StepKeepsTheInvariant := by
  rintro s t ⟨hseq, -, hcnt⟩ h
  obtain ⟨u, rfl, hu⟩ := blockStep_of_step h
  obtain ⟨hperiod, -⟩ := hu.parameters
  refine ⟨hu.keeps_seqInv hseq, hu.meets_outInv, ?_⟩
  rw [clockEdge_period, hperiod]
  exact hu.clockEdge_tCnt_lt hcnt

end Sys2Proof.Machine
end

section
/-!
SUPPORT. READ cycle by cycle: what an idle block accepts, the rows of 42_receive.md R131, the precondition check
of R132 and R133, and what the rows leave unchanged. Settles O13, O20, O29 and O47.
-/

namespace Sys2Proof.Machine

variable {s t : State} {d : Byte}

/-! ### The rows of READ -/

/-- Settles O13: the acceptance row of an idle block, field by field. -/
theorem readIsAccepted : Obligations.ReadIsAccepted :=
  fun d _ => exec_read_of_idle d

/-- `RX_TRESET` in one row, whatever `NALIGN` is (R131). -/
theorem seqStep_rxTreset (h : s.seq = .rxTreset) : seqStep s = .next { timerReset s with
    dlyCnt := s.nalign, seq := if s.nalign = 0#3 then .rxWaitStart else .rxAlign } := by
  by_cases hn : s.nalign = 0#3
  · rw [seqStep_of_row (.rxTresetSkip h hn), if_pos hn, hn]
  · rw [seqStep_of_row (.rxTreset h hn), if_neg hn]

/-- `RX_ALIGN` in one row: it stays as long as cycles are left (R131). -/
theorem seqStep_rxAlign (h : s.seq = .rxAlign) (hd : 1#3 ≤ s.dlyCnt) :
    seqStep s = .next { nopCycle s with
      dlyCnt := s.dlyCnt - 1#3
      seq := if 0#3 < s.dlyCnt - 1#3 then .rxAlign else .rxWaitStart } := by
  by_cases h1 : s.dlyCnt = 1#3
  · rw [seqStep_of_row (.rxAlignLast h h1), h1]
    rfl
  · have hmore : 0#3 < s.dlyCnt - 1#3 := by bv_omega
    rw [seqStep_of_row (.rxAlign h (by bv_omega) h1), if_pos hmore]

/-- A wait of READ stays where it is on `NOT_YET`. -/
theorem seqStep_rx_notYet {q : Seq} (h : s.seq = q) (hq : q.isWait = true)
    (ha : s.pollAnswer = .notYet) : seqStep s = .next (timerPoll s) :=
  seqStep_of_row (seqRow_timerPoll (h ▸ hq) ha)

/-- Settles O20: row by row from the step table. -/
theorem readStepTable : Obligations.ReadStepTable := by
  intro s
  exact ⟨exec_read_of_idle, fun e h ha => seqStep_of_row (.rxCheckErr e h ha),
    fun h ha => seqStep_of_row (.rxCheckHigh h ha), fun h ha => seqStep_of_row (.rxCheckLow h ha),
    seqStep_rxTreset, seqStep_rxAlign, fun h => seqStep_rx_notYet h rfl,
    fun h ha => seqStep_of_row (.rxWaitStart h ha),
    fun h ha => seqStep_of_row (.rxData .high h ha), fun h ha => seqStep_of_row (.rxData .low h ha),
    fun e h ha => seqStep_of_row (.rxDataErr e h ha), fun h => seqStep_rx_notYet h rfl,
    fun h ha hc => seqStep_of_row (.rxWaitData h ha hc),
    fun h ha hc => seqStep_of_row (.rxWaitDataLast h ha hc), fun h => seqStep_rx_notYet h rfl,
    fun h ha => seqStep_of_row (.rxWaitStop h ha)⟩

/-! ### Frame -/

/-- What the rows of READ leave unchanged inside the block, the line and the timer. -/
theorem SeqRow.inside_of_rx (h : SeqRow s t) (hq : s.seq.isRx = true) :
    t.txSr = s.txSr ∧ t.txCnt = s.txCnt ∧ (s.seq ≠ .rxData → t.rxSr = s.rxSr) ∧
    (s.seq ≠ .rxWaitData → t.rxCnt = s.rxCnt) ∧
    (s.seq ≠ .rxTreset → s.seq ≠ .rxAlign → t.dlyCnt = s.dlyCnt) ∧ t.txLine = s.txLine ∧
    (s.seq ≠ .rxTreset → t.tCnt = s.tCnt) ∧
    (s.seq ≠ .rxTreset → s.seq.isWait = false → t.tFlag = s.tFlag) ∧ t.out.txpReq = false := by
  cases h with
  | notYet h ha => simp [isWait_iff.2 h, PortOut.quiet]
  | rxCheckErr _ h | rxDataErr _ h | rxData _ h | rxCheckHigh h | rxCheckLow h | rxTresetSkip h
  | rxTreset h | rxAlignLast h | rxAlign h | rxWaitStart h | rxWaitData h | rxWaitDataLast h
  | rxWaitStop h => simp [h, PortOut.quiet, Seq.isWait]
  | txStartErr _ h | txDataErr _ h | txStopErr _ h | _ h => simp [h, Seq.isRx] at hq

/-- Settles O29: each register has its one row, and the rest is the frame of every row. -/
theorem receiveStepFrame : Obligations.ReceiveStepFrame := by
  intro s t hq h
  have hrow := seqStep_row h
  obtain ⟨htxSr, htxCnt, hsr, hcnt, hdly, hline, htCnt, htFlag, htx⟩ := hrow.inside_of_rx hq
  obtain ⟨hperiod, hkind, hnalign, hew⟩ := hrow.parameters
  exact ⟨htxSr, htxCnt, hsr, hcnt, hdly, hline, htCnt, htFlag, htx, hperiod, hkind, hnalign, hew,
    hrow.outside⟩

/-! ### Acceptance and check -/

/-- The state after the acceptance row of READ (R131). -/
def acceptRead (s : State) : State :=
  { accept .read s with rxSr := 0#8, rxCnt := 0#4, seq := .rxCheck }

@[simp] theorem acceptRead_trace (s : State) :
    (acceptRead s).trace = s.trace ++ [.cmd .read] := rfl

@[simp] theorem acceptRead_later (s : State) : (acceptRead s).later = s.later := rfl

/-- The first cycle of a presented READ (R38, R131). -/
theorem blockStep_acceptRead (h : Presents s (.read d)) : BlockStep s (acceptRead s) := by
  obtain ⟨hi, hn, hp⟩ := h
  exact .read hn hp (decode_encode (.read d)) hi

/-- The host presents nothing while a READ runs that it has just had accepted. -/
theorem clockEdge_acceptRead_cmdPort (s : State) : (clockEdge (acceptRead s)).cmdPort = none :=
  clockEdge_cmdPort_of_busy (s := acceptRead s) nofun

/-- The precondition check: one pin read, and what each of its three answers leads to (R132, R133). -/
theorem exists_row_of_rxCheck (h : s.seq = .rxCheck) :
    ∃ t, SeqRow s t ∧ t.out.rxpReq = true ∧ t.out.txpReq = false ∧ t.out.tmrReset = false ∧
      t.out.tmrPoll = false ∧
      (s.pinGetAnswer = .ok .high → t.seq = .idle ∧
        t.trace = s.trace ++ [.rxGet (.ok .high), .rsp .errInvalidInterrupt]) ∧
      (∀ e, s.pinGetAnswer = .err e → t.seq = .idle ∧
        t.trace = s.trace ++ [.rxGet (.err e), .rsp (.errBus e)]) ∧
      (s.pinGetAnswer = .ok .low → t.seq = .rxTreset ∧
        t.trace = s.trace ++ [.rxGet (.ok .low)]) := by
  cases ha : s.pinGetAnswer with
  | err e => exact ⟨_, .rxCheckErr e h ha, by simp [ha, PortOut.quiet]⟩
  | ok v =>
    cases v with
    | high => exact ⟨_, .rxCheckHigh h ha, by simp [ha, PortOut.quiet]⟩
    | low => exact ⟨_, .rxCheckLow h ha, by simp [ha, PortOut.quiet]⟩

/-- Settles O47: the acceptance shows nothing, and the check reads the port of the next cycle. -/
theorem readChecksTheLineFirst : Obligations.ReadChecksTheLineFirst := by
  intro s d p ps hpres hl hn
  have haccept := step_of_blockStep (blockStep_acceptRead hpres)
  have hnow : (clockEdge (acceptRead s)).now = p := by simp [hl]
  obtain ⟨t, hrow, hrx, htx, hreset, hpoll, hhigh, herr, hlow⟩ :=
    exists_row_of_rxCheck (s := clockEdge (acceptRead s)) rfl
  have hcheck := step_of_blockStep
    (.row (by rwa [hnow]) (by simp [clockEdge_acceptRead_cmdPort]) hrow)
  have hew : (clockEdge (acceptRead s)).ew = s.ew := by simp [acceptRead]
  simp only [clockEdge_trace, acceptRead_trace, List.append_assoc, List.cons_append,
    List.nil_append] at hhigh herr hlow
  refine ⟨_, clockEdge t, run_succ_of_step haccept, ?_, hrx, rfl, htx, hreset, hpoll, fun hok hv => ?_,
    fun he => ?_, fun hok hv => ?_⟩
  · rw [run_succ_of_step haccept, run_succ_of_step hcheck, run]
  · exact hhigh (by rw [pinGetAnswer_ok (by rwa [hnow]), hnow, hv])
  · exact herr _ (by rw [pinGetAnswer_err (by rwa [hnow]), hnow, hew, portErr])
  · exact hlow (by rw [pinGetAnswer_ok (by rwa [hnow]), hnow, hv])

end Sys2Proof.Machine
end

section
/-!
SUPPORT. Where a READ stands. It walks the frame through the positions of a WRITE, with a pin read in the place
of each drive; in the stop cell there is none, and the two waits after the last sample follow each other
(42_receive.md R131, R137, R138). So a row of READ is found beside the row of a WRITE at the same place, its
companion.
-/

namespace Sys2Proof.Machine

variable {s t u w x : State} {b : Byte} {p : TxPos} {k : Nat}

/-! ### A READ and a WRITE at the same place -/

/-- The state of READ at the place of a state of WRITE (R95). The stop cell's drive has no counterpart: READ
is in its last wait already. -/
def Seq.twin : Seq → Seq
  | .txStart => .rxCheck
  | .txTreset => .rxTreset
  | .txAlign => .rxAlign
  | .txWaitStart => .rxWaitStart
  | .txData => .rxData
  | .txWaitData => .rxWaitData
  | .txStop | .txWaitStop => .rxWaitStop
  | q => q

/-- The READ in `s` and the WRITE in `w` are at the same place, with the same counters and timer. -/
structure Twin (s w : State) : Prop where
  tx : w.seq.isTx = true
  seq : s.seq = w.seq.twin
  cnt : s.rxCnt = w.txCnt
  dlyCnt : s.dlyCnt = w.dlyCnt
  tmrReset : s.out.tmrReset = w.out.tmrReset
  tCnt : s.tCnt = w.tCnt
  tFlag : s.tFlag = w.tFlag
  period : s.period = w.period
  timerKind : s.timerKind = w.timerKind
  nalign : s.nalign = w.nalign

theorem isRx_twin {q : Seq} (hq : q.isTx = true) : q.twin.isRx = true := by
  cases q <;> simp_all [Seq.isTx, Seq.isRx, Seq.twin]

theorem isWait_twin {q : Seq} (hq : q.isWait = true) : q.twin.isWait = true := by
  cases q <;> simp_all [Seq.isWait, Seq.twin]

theorem ne_idle_of_isRx {q : Seq} (hq : q.isRx = true) : q ≠ .idle := by
  rintro rfl
  simp [Seq.isRx] at hq

theorem Twin.ne_idle (h : Twin s w) : s.seq ≠ .idle := by
  rw [h.seq]
  exact ne_idle_of_isRx (isRx_twin h.tx)

/-- The timers of both count alike. -/
theorem Twin.clockEdge (h : Twin s w) : Twin (Machine.clockEdge s) (Machine.clockEdge w) := by
  obtain ⟨htx, hseq, hcnt, hdly, hreset, htc, htf, hperiod, hkind, hnalign⟩ := h
  constructor <;> simp [timerCount_tCnt, timerCount_tFlag, *]

theorem Twin.timerPoll_tFlag (h : Twin s w) (hpoll : s.pollAnswer = w.pollAnswer) :
    (timerPoll s).tFlag = (timerPoll w).tFlag := by
  simp only [Machine.timerPoll_tFlag, hpoll, h.tFlag]

/-- What READ does where a WRITE has the event `e`: it reads the level `v` where the WRITE drives. -/
def readEvent (v : Level) : Event → Event
  | .txSet _ _ => .rxGet (.ok v)
  | e => e

/-- In one cycle READ does the same as its twin, up to the level that it reads, and polls in place of the stop
cell's drive. -/
structure Follows (v : Level) (s t w x : State) : Prop where
  row : SeqRow s t
  twin : Twin t x
  trace : ∃ e, inner [e] = true ∧ t.trace = s.trace ++ [e] ∧
    (w.seq ≠ .txStop → ∀ e', x.trace = w.trace ++ [e'] → e = readEvent v e')

theorem follows_of_event {v : Level} {e e' : Event} (hrow : SeqRow s t) (htwin : Twin t x)
    (he : inner [e] = true) (ht : t.trace = s.trace ++ [e]) (hx : x.trace = w.trace ++ [e'])
    (hee : w.seq ≠ .txStop → e = readEvent v e') : Follows v s t w x := by
  refine ⟨hrow, htwin, e, he, ht, fun hw e'' hx' => ?_⟩
  obtain rfl : e' = e'' := by simpa using hx.symm.trans hx'
  exact hee hw

/-- Beside each row of a WRITE that neither fails nor answers there is a row of READ. -/
theorem Twin.exists_follows {v : Level} (h : Twin s w) (hrow : SeqRow w x) (hx : x.seq ≠ .idle)
    (hset : w.pinSetAnswer = .ok) (hpoll : s.pollAnswer = w.pollAnswer)
    (hget : w.seq = .txStart ∨ w.seq = .txData → s.pinGetAnswer = .ok v)
    (hlow : w.seq = .txStart → v = .low) (hstop : w.seq = .txStop → s.pollAnswer = .notYet) :
    ∃ t, Follows v s t w x := by
  have hseq := h.seq
  have htx := h.tx
  have hflag := h.timerPoll_tFlag hpoll
  cases hrow with
  | idle hw | rxCheckErr _ hw | rxCheckHigh hw | rxCheckLow hw | rxTresetSkip hw | rxTreset hw
  | rxAlignLast hw | rxAlign hw | rxWaitStart hw | rxData _ hw | rxDataErr _ hw | rxWaitData hw
  | rxWaitDataLast hw | rxWaitStop hw => simp [hw, Seq.isTx] at htx
  | txStartErr _ _ ha | txDataErr _ _ ha | txStopErr _ _ ha => simp [hset] at ha
  | txWaitStop => exact absurd rfl hx
  | notYet hw ha =>
    rw [← hpoll] at ha
    have hwait : s.seq.isWait = true := by rw [hseq]; exact isWait_twin (isWait_iff.2 hw)
    exact ⟨_, follows_of_event (seqRow_timerPoll hwait ha) { h with tFlag := hflag, tmrReset := rfl }
      rfl (timerPoll_trace s) (timerPoll_trace w) fun _ => by rw [hpoll]; rfl⟩
  | txStart hw =>
    obtain rfl := hlow hw
    have ha := hget (.inl hw)
    rw [hw] at hseq
    exact ⟨_, follows_of_event (.rxCheckLow hseq ha)
      { h with seq := rfl, tx := rfl, tmrReset := rfl } rfl (pinGet_trace s) (pinSet_trace w .low)
      fun _ => by rw [ha]; rfl⟩
  | txTresetSkip hw hn =>
    rw [hw] at hseq
    exact ⟨_, follows_of_event (.rxTresetSkip hseq (h.nalign.trans hn))
      { h with seq := rfl, tx := rfl, tmrReset := rfl, dlyCnt := rfl, tCnt := rfl, tFlag := rfl }
      rfl (timerReset_trace s) (timerReset_trace w) fun _ => rfl⟩
  | txTreset hw hn =>
    rw [hw] at hseq
    exact ⟨_, follows_of_event (.rxTreset hseq (h.nalign.trans_ne hn))
      { h with seq := rfl, tx := rfl, tmrReset := rfl, dlyCnt := h.nalign, tCnt := rfl, tFlag := rfl }
      rfl (timerReset_trace s) (timerReset_trace w) fun _ => rfl⟩
  | txAlignLast hw hd =>
    rw [hw] at hseq
    exact ⟨_, follows_of_event (.rxAlignLast hseq (h.dlyCnt.trans hd))
      { h with seq := rfl, tx := rfl, tmrReset := rfl, dlyCnt := rfl }
      rfl (nopCycle_trace s) (nopCycle_trace w) fun _ => rfl⟩
  | txAlign hw h0 h1 =>
    rw [hw] at hseq
    exact ⟨_, follows_of_event (.rxAlign hseq (h.dlyCnt.trans_ne h0) (h.dlyCnt.trans_ne h1))
      { h with seq := rfl, tx := rfl, tmrReset := rfl, dlyCnt := by simp [h.dlyCnt] }
      rfl (nopCycle_trace s) (nopCycle_trace w) fun _ => rfl⟩
  | txWaitStart hw ha =>
    rw [hw] at hseq
    exact ⟨_, follows_of_event (.rxWaitStart hseq (hpoll.trans ha))
      { h with seq := rfl, tx := rfl, tmrReset := rfl, tFlag := hflag }
      rfl (timerPoll_trace s) (timerPoll_trace w) fun _ => by rw [hpoll]; rfl⟩
  | txData hw =>
    have ha := hget (.inr hw)
    rw [hw] at hseq
    exact ⟨_, follows_of_event (.rxData v hseq ha)
      { h with seq := rfl, tx := rfl, tmrReset := rfl } rfl (pinGet_trace s) (pinSet_trace w _)
      fun _ => by rw [ha]; rfl⟩
  | txWaitData hw ha hc =>
    rw [hw] at hseq
    exact ⟨_, follows_of_event (.rxWaitData hseq (hpoll.trans ha) (h.cnt ▸ hc))
      { h with seq := rfl, tx := rfl, tmrReset := rfl, tFlag := hflag, cnt := by simp [h.cnt] }
      rfl (timerPoll_trace s) (timerPoll_trace w) fun _ => by rw [hpoll]; rfl⟩
  | txWaitDataLast hw ha hc =>
    rw [hw] at hseq
    exact ⟨_, follows_of_event (.rxWaitDataLast hseq (hpoll.trans ha) (h.cnt.trans hc))
      { h with seq := rfl, tx := rfl, tmrReset := rfl, tFlag := hflag, cnt := rfl }
      rfl (timerPoll_trace s) (timerPoll_trace w) fun _ => by rw [hpoll]; rfl⟩
  | txStop hw =>
    have ha := hstop hw
    rw [hw] at hseq
    exact ⟨_, follows_of_event (seqRow_timerPoll (by rw [hseq]; rfl) ha)
      { h with seq := hseq, tx := rfl, tmrReset := rfl, tFlag := by simp [ha, h.tFlag] }
      rfl (timerPoll_trace s) (pinSet_trace w .high) fun hne => absurd hw hne⟩

/-! ### Positions -/

namespace TxPos

/-- READ has no pin operation in the stop cell: it goes on to the wait (R137). -/
def skipStop (p : TxPos) : TxPos := if p = drive 9 then wait 9 else p

/-- The position of a READ after one cycle in which it neither fails nor answers. -/
def rxNext (nalign : Nat) (a : PollAnswer) (p : TxPos) : TxPos := (p.next nalign a).skipStop

theorem skipStop_of_ne (h : p ≠ drive 9) : p.skipStop = p := if_neg h

@[simp] theorem skipStop_drive_nine : (drive 9).skipStop = wait 9 := rfl

/-- The states of a drive. -/
theorem exists_drive {p : TxPos} (hk : p.cellIndex ≤ 9)
    (hq : p.seq = .txStart ∨ p.seq = .txData ∨ p.seq = .txStop) : ∃ k, p = drive k := by
  obtain ⟨hdrive, -⟩ := p.seq_iff hk
  have hp := hdrive.1 hq
  cases p with
  | drive k => exact ⟨k, rfl⟩
  | _ => cases hp

theorem eq_drive_zero {p : TxPos} (hq : p.seq = .txStart) : p = drive 0 := by
  cases p with
  | drive k =>
    simp only [seq] at hq
    split_ifs at hq with h0
    rw [h0]
  | wait k =>
    simp only [seq] at hq
    split_ifs at hq
  | _ => cases hq

/-- Only the drive of the stop cell is in `TX_STOP`. -/
theorem seq_ne_txStop {p : TxPos} (hk : p.cellIndex ≤ 9) (h : p ≠ drive 9) : p.seq ≠ .txStop := by
  intro hq
  obtain ⟨k, rfl⟩ := exists_drive hk (.inr (.inr hq))
  have hk9 : k ≠ 9 := by rintro rfl; exact h rfl
  simp only [cellIndex] at hk
  simp only [seq] at hq
  split_ifs at hq
  omega

end TxPos

/-- What the block holds at a position of a READ. -/
structure RxAt (p : TxPos) (s : State) : Prop where
  cell_le : p.cellIndex ≤ 9
  ne_stop : p ≠ .drive 9
  seq : s.seq = p.seq.twin
  rxCnt : s.rxCnt = BitVec.ofNat 4 (p.cellIndex - 1)
  dlyCnt : ∀ d, p = .align d → 1 ≤ d ∧ s.dlyCnt.toNat = d

theorem RxAt.clockEdge (h : RxAt p s) : RxAt p (Machine.clockEdge s) := by
  obtain ⟨hk, hne, hseq, hcnt, hdly⟩ := h
  exact ⟨hk, hne, by simpa, by simpa, by simpa⟩

/-- The acceptance row of R131 leads to the check. -/
theorem rxAt_acceptRead (s : State) : RxAt (.drive 0) (acceptRead s) :=
  ⟨by decide, nofun, rfl, rfl, nofun⟩

theorem RxAt.isRx (h : RxAt p s) : s.seq.isRx = true := by
  rw [h.seq]
  exact isRx_twin p.seq_isTx

theorem RxAt.ne_idle (h : RxAt p s) : s.seq ≠ .idle := ne_idle_of_isRx h.isRx

/-- The twin of a WRITE at a position stands at that position. -/
theorem Twin.rxAt (h : Twin s w) (hw : TxAt b p w) : RxAt p.skipStop s := by
  obtain ⟨hk, hseq, hcnt, -, hdly, -⟩ := hw
  by_cases hp : p = .drive 9
  · subst hp
    exact ⟨le_rfl, nofun, by rw [h.seq, hseq]; rfl, h.cnt.trans hcnt, nofun⟩
  · rw [TxPos.skipStop_of_ne hp]
    exact ⟨hk, hp, by rw [h.seq, hseq], h.cnt.trans hcnt, by rwa [h.dlyCnt]⟩

/-- The WRITE of `0x00` at the position of a READ, on an output pin that does not fail. -/
def companion (p : TxPos) (s : State) : State :=
  { s with
    seq := p.seq
    txSr := 0#8
    txCnt := s.rxCnt
    txLine := (p.lineCell.map (cell 0#8)).getD s.txLine
    now := { s.now with txpErr := false } }

theorem companion_pinSetAnswer (p : TxPos) (s : State) : (companion p s).pinSetAnswer = .ok :=
  pinSetAnswer_ok rfl

theorem RxAt.txAt_companion (h : RxAt p s) : TxAt 0#8 p (companion p s) := by
  obtain ⟨hk, -, -, hcnt, hdly⟩ := h
  exact ⟨hk, rfl, hcnt, BitVec.zero_ushiftRight.symm, hdly, fun k hline => by
    simp [companion, hline]⟩

theorem RxAt.twin_companion (h : RxAt p s) : Twin s (companion p s) :=
  ⟨p.seq_isTx, h.seq, rfl, rfl, rfl, rfl, rfl, rfl, rfl, rfl⟩

/-- A cycle of a READ that neither fails nor answers, beside that of its companion. -/
theorem RxAt.exists_follows {v : Level} (h : RxAt p s)
    (hget : ∀ k, p = .drive k → s.pinGetAnswer = .ok v) (hlow : p = .drive 0 → v = .low)
    (hmore : p = .wait 9 → s.pollAnswer = .notYet) :
    ∃ t x, SeqRow (companion p s) x ∧
      TxAt 0#8 (p.next s.nalign.toNat s.pollAnswer) x ∧
      x.trace = s.trace ++ [p.event 0#8 s.pollAnswer] ∧ Follows v s t (companion p s) x := by
  have hread : p.seq = .txStart ∨ p.seq = .txData → s.pinGetAnswer = .ok v := fun hq => by
    obtain ⟨k, rfl⟩ := TxPos.exists_drive h.cell_le (hq.imp_right .inl)
    exact hget k rfl
  obtain ⟨x, hrow, hx, htr⟩ := h.txAt_companion.exists_next (fun _ _ => companion_pinSetAnswer p s) hmore
  obtain ⟨t, ht⟩ := h.twin_companion.exists_follows hrow hx.ne_idle (companion_pinSetAnswer p s) rfl
    hread (fun hq => hlow (TxPos.eq_drive_zero hq))
    fun hq => absurd hq (TxPos.seq_ne_txStop h.cell_le h.ne_stop)
  exact ⟨t, x, hrow, hx, htr, ht⟩

end Sys2Proof.Machine
end

section
/-!
SUPPORT. The events of an answered READ and the byte it answers: what has been read at each position, and which
bits of the byte the receive shift register holds there (42_receive.md R135, R138, R139, R141). Settles O43,
O44 and O45.
-/

namespace Sys2Proof.Machine

variable {s t u : State} {r r' : Byte} {p : TxPos} {k j : Nat} {nalign : BitVec 3} {mid : List Event}

/-! ### The bits sampled so far -/

/-- How many data bits have been sampled at a position. -/
def TxPos.samples (p : TxPos) : Nat := min p.shifts 8

/-- The byte of the `k` samples that are the top bits of `sr`, sample 0 in bit 0. -/
def topBits (k : Nat) (sr : Byte) : Byte := sr >>> (8 - k)

/-- In the last wait all eight bits have been sampled. -/
theorem topBits_last_wait (sr : Byte) : topBits (TxPos.wait 9).samples sr = sr :=
  BitVec.ushiftRight_zero sr

/-- One sample more leaves those before it where they are. -/
theorem getLsbD_topBits_shiftIn_of_lt (v : Level) (sr : Byte) (hj : j < k) (hk : k < 8) :
    (topBits (k + 1) (shiftIn v sr)).getLsbD j = (topBits k sr).getLsbD j := by
  rw [topBits, topBits, BitVec.getLsbD_ushiftRight, BitVec.getLsbD_ushiftRight,
    getLsbD_shiftIn_of_lt v sr (by omega)]
  congr 1
  omega

/-- The new sample is the next bit. -/
theorem getLsbD_topBits_shiftIn (v : Level) (sr : Byte) (hk : k < 8) :
    (topBits (k + 1) (shiftIn v sr)).getLsbD k = bitOfLevel v := by
  rw [topBits, BitVec.getLsbD_ushiftRight, show 8 - (k + 1) + k = 7 by omega,
    getLsbD_shiftIn_seven]

theorem cell_succ (b : Byte) (hk : k < 8) : cell b (k + 1) = levelOfBit (b.getLsbD k) := by
  simp [cell, show k + 1 ≤ 8 by omega]

/-- The cells before the new sample stay as they are. -/
theorem cell_topBits_shiftIn_of_le (v : Level) (sr : Byte) (hj : j ≤ k) (hk : k < 8) :
    cell (topBits (k + 1) (shiftIn v sr)) j = cell (topBits k sr) j := by
  cases j with
  | zero => rfl
  | succ j =>
    rw [cell_succ _ (by omega), cell_succ _ (by omega), getLsbD_topBits_shiftIn_of_lt v sr hj hk]

/-- The new sample is the next cell. -/
theorem cell_topBits_shiftIn (v : Level) (sr : Byte) (hk : k < 8) :
    cell (topBits (k + 1) (shiftIn v sr)) (k + 1) = v := by
  rw [cell_succ _ hk, getLsbD_topBits_shiftIn v sr hk, levelOfBit_bitOfLevel]

theorem samples_settling (d : Nat) : (TxPos.settling d).samples = 0 := by
  unfold TxPos.settling
  split_ifs <;> rfl

theorem samples_skipStop (p : TxPos) : p.skipStop.samples = p.samples := by
  by_cases h : p = .drive 9
  · subst h
    rfl
  · rw [TxPos.skipStop_of_ne h]

/-- Only a sample adds to the bits sampled. -/
theorem samples_rxNext (N : Nat) (a : PollAnswer) (hdata : ∀ k, p ≠ .drive (k + 1)) :
    (p.rxNext N a).samples = p.samples := by
  rw [TxPos.rxNext, samples_skipStop]
  cases p with
  | drive k =>
    cases k with
    | zero => rfl
    | succ k => exact absurd rfl (hdata k)
  | treset => exact samples_settling N
  | align d => exact samples_settling (d - 1)
  | wait k => cases a <;> rfl

/-! ### What has been read at each position -/

/-- The event of READ in the place of one of WRITE: a read of the level that is driven. -/
def asRead : Event → Event
  | .txSet v .ok => .rxGet (.ok v)
  | e => e

/-- The pin reads of a READ of `r` are the drives of a WRITE of `r`. -/
theorem map_asRead_txCells (nalign : BitVec 3) (r : Byte) (w : Nat → Nat) (k : Nat) :
    (txCells nalign r w k).map asRead = rxCells nalign r w k := by
  have hclock (j : Nat) : (cellClock nalign j).map asRead = cellClock nalign j := by
    unfold cellClock
    split_ifs <;> simp [asRead]
  simp [txCells, rxCells, List.map_flatMap, hclock, waitEvents, asRead]

/-- The events between `Cmd(READ)` and the cycle about to be taken, at each position of the frame of `r`: those
that the WRITE of `r` has sent there, as reads, and in the last wait all nine reads with their waits (R138). -/
inductive Received (nalign : BitVec 3) (r : Byte) : TxPos → List Event → Prop
  | cells {p : TxPos} {mid : List Event} (hp : p.cellIndex ≤ 8) (h : Sent nalign r p mid) :
      Received nalign r p (mid.map asRead)
  | stop (w : Nat → Nat) (n : Nat) : Received nalign r (.wait 9)
      (rxCells nalign r w 9 ++ List.replicate n (.poll .notYet))

theorem Sent.of_drive (h : Sent nalign r (.drive k) mid) : ∃ w, mid = txCells nalign r w k := by
  cases h with
  | drive k w => exact ⟨w, rfl⟩

/-- Before the read of cell `k` all cells before it have been read. -/
theorem Received.of_drive (h : Received nalign r (.drive k) mid) :
    ∃ w, mid = rxCells nalign r w k := by
  cases h with
  | cells hp h =>
    obtain ⟨w, rfl⟩ := h.of_drive
    exact ⟨w, map_asRead_txCells _ _ _ _⟩

theorem received_drive (w : Nat → Nat) (hk : k ≤ 8) :
    Received nalign r (.drive k) (rxCells nalign r w k) := by
  rw [← map_asRead_txCells]
  exact .cells hk (.drive k w)

/-- What has been read before cell `k` says nothing of the later bits. -/
theorem Received.congr (h : Received nalign r (.drive k) mid) (hk : k ≤ 8)
    (hcell : ∀ j < k, cell r j = cell r' j) : Received nalign r' (.drive k) mid := by
  obtain ⟨w, rfl⟩ := h.of_drive
  have heq : rxCells nalign r w k = rxCells nalign r' w k :=
    List.flatMap_congr fun j hj => by rw [hcell j (List.mem_range.1 hj)]
  rw [heq]
  exact received_drive w hk

/-- The stop cell begins with its drive. -/
theorem cellIndex_next_le {N : Nat} {a : PollAnswer} (hp : p.cellIndex ≤ 8)
    (hstop : p.next N a ≠ .drive 9) : (p.next N a).cellIndex ≤ 8 := by
  have hsettling (d : Nat) : (TxPos.settling d).cellIndex ≤ 8 := by
    unfold TxPos.settling
    split_ifs <;> exact Nat.zero_le 8
  cases p with
  | drive k =>
    simp only [TxPos.next]
    split_ifs
    · exact Nat.zero_le 8
    · exact hp
  | treset => exact hsettling N
  | align d => exact hsettling (d - 1)
  | wait k =>
    cases a with
    | notYet => exact hp
    | elapsed =>
      have hk : k + 1 ≠ 9 := fun h => hstop (congrArg TxPos.drive h)
      simp only [TxPos.cellIndex, TxPos.next] at hp ⊢
      omega

/-- One cycle more: the events read are those of the next position. -/
theorem Received.next {a : PollAnswer} (h : Received nalign r p mid)
    (hd : ∀ d, p = .align d → 1 ≤ d) (hmore : p = .wait 9 → a = .notYet) :
    Received nalign r (p.rxNext nalign.toNat a) (mid ++ [asRead (p.event r a)]) := by
  cases h with
  | @cells p mid hp h =>
    have hn := h.next a hd
    have hmap : mid.map asRead ++ [asRead (p.event r a)] = (mid ++ [p.event r a]).map asRead := by
      simp
    rw [hmap]
    by_cases hstop : p.next nalign.toNat a = .drive 9
    · rw [hstop] at hn
      obtain ⟨w, hw⟩ := hn.of_drive
      rw [TxPos.rxNext, hstop, hw, map_asRead_txCells]
      simpa using Received.stop (nalign := nalign) (r := r) w 0
    · rw [TxPos.rxNext, TxPos.skipStop_of_ne hstop]
      exact .cells (cellIndex_next_le hp hstop) hn
  | stop w n =>
    obtain rfl := hmore rfl
    have hone : List.replicate n (.poll .notYet) ++ [asRead (TxPos.event r .notYet (.wait 9))] =
        List.replicate (n + 1) (.poll .notYet) := List.replicate_succ'.symm
    rw [List.append_assoc, hone]
    exact .stop w (n + 1)

/-! ### One cycle of a READ -/

/-- A READ moves on from position `p`: the events read are then those of the next position. -/
structure RxMoves (p : TxPos) (s u : State) : Prop where
  pos : RxAt (p.rxNext s.nalign.toNat s.pollAnswer) u
  event : ∃ e, inner [e] = true ∧ u.trace = s.trace ++ [e] ∧
    ∀ mid, Received s.nalign (topBits p.samples s.rxSr) p mid →
      Received s.nalign (topBits (p.rxNext s.nalign.toNat s.pollAnswer).samples u.rxSr)
        (p.rxNext s.nalign.toNat s.pollAnswer) (mid ++ [e])

theorem RxMoves.clockEdge (h : RxMoves p s u) : RxMoves p s (Machine.clockEdge u) :=
  ⟨h.pos.clockEdge, by simpa using h.event⟩

theorem SeqRow.rxSr_of_sample {v : Level} (h : SeqRow s u) (hq : s.seq = .rxData)
    (ha : s.pinGetAnswer = .ok v) : u.rxSr = shiftIn v s.rxSr := by
  rw [h.unique (.rxData v hq ha)]

/-- READ is in `RX_DATA` before the reads after the first. -/
theorem RxAt.sampling (h : RxAt (.drive (k + 1)) s) : k < 8 ∧ s.seq = .rxData := by
  obtain ⟨hk, hne, hseq, -, -⟩ := h
  have hlt : k < 8 := by
    have hk8 : k ≠ 8 := by rintro rfl; exact hne rfl
    simp only [TxPos.cellIndex] at hk
    omega
  have hle : k + 1 ≤ 8 := hlt
  exact ⟨hlt, by simp [hseq, TxPos.seq, hle, Seq.twin]⟩

/-- READ is in `RX_DATA` only there. -/
theorem RxAt.eq_drive_of_rxData (h : RxAt p s) (hq : s.seq = .rxData) : ∃ k, p = .drive (k + 1) := by
  have hseq := h.seq
  rw [hq] at hseq
  cases p with
  | drive k =>
    cases k with
    | zero => cases hseq
    | succ k => exact ⟨k, rfl⟩
  | treset | align d => cases hseq
  | wait k =>
    simp only [TxPos.seq] at hseq
    split_ifs at hseq <;> cases hseq

/-- The sample of bit `k`: the byte changes in that bit, and the cell read is its own. -/
theorem Received.sample {sr : Byte} (h : Received nalign (topBits k sr) (.drive (k + 1)) mid)
    (hk : k < 8) (v : Level) :
    Received nalign (topBits (k + 1) (shiftIn v sr)) (.wait (k + 1)) (mid ++ [.rxGet (.ok v)]) := by
  have hbyte := h.congr (r' := topBits (k + 1) (shiftIn v sr)) hk fun j hj =>
    (cell_topBits_shiftIn_of_le v sr (by omega) hk).symm
  have hnext := hbyte.next (a := .notYet) nofun nofun
  rwa [TxPos.event, cell_topBits_shiftIn v sr hk] at hnext

/-- A row that samples nothing leaves the byte as it is. -/
theorem SeqRow.topBits_of_no_sample (h : SeqRow s u) (hat : RxAt p s) (N : Nat) (a : PollAnswer)
    (hp : ∀ k, p ≠ .drive (k + 1)) :
    topBits (p.rxNext N a).samples u.rxSr = topBits p.samples s.rxSr := by
  obtain ⟨-, -, hsr, -⟩ := h.inside_of_rx hat.isRx
  have hq : s.seq ≠ .rxData := fun hq => by
    obtain ⟨k, hk⟩ := hat.eq_drive_of_rxData hq
    exact hp k hk
  rw [samples_rxNext N a hp, hsr hq]

/-- Outside the samples the level that is read is that of the frame: LOW, at the check. -/
theorem readEvent_event {v : Level} (r : Byte) (a : PollAnswer) (hlow : p = .drive 0 → v = .low)
    (hp : ∀ k, p ≠ .drive (k + 1)) : readEvent v (p.event 0#8 a) = asRead (p.event r a) := by
  cases p with
  | drive k =>
    cases k with
    | zero => rw [hlow rfl]; rfl
    | succ k => exact absurd rfl (hp k)
  | _ => rfl

/-- A cycle of a READ that neither fails nor answers moves it on, beside its companion. -/
theorem RxAt.exists_moves {v : Level} (h : RxAt p s)
    (hget : ∀ k, p = .drive k → s.pinGetAnswer = .ok v) (hlow : p = .drive 0 → v = .low)
    (hmore : p = .wait 9 → s.pollAnswer = .notYet) :
    ∃ u x, SeqRow (companion p s) x ∧ Follows v s u (companion p s) x ∧ RxMoves p s u := by
  obtain ⟨u, x, hrowx, hx, hxt, hf⟩ := h.exists_follows hget hlow hmore
  refine ⟨u, x, hrowx, hf, ?_⟩
  obtain ⟨hrow, htwin, e, he, htr, hee⟩ := hf
  obtain rfl := hee (TxPos.seq_ne_txStop h.cell_le h.ne_stop) _ hxt
  refine ⟨htwin.rxAt hx, _, he, htr, fun mid hmid => ?_⟩
  by_cases hdata : ∃ k, p = .drive (k + 1)
  · obtain ⟨k, rfl⟩ := hdata
    obtain ⟨hk, hq⟩ := h.sampling
    have hsamples : (TxPos.drive (k + 1)).samples = k := min_eq_left hk.le
    have hsamples' : (TxPos.wait (k + 1)).samples = k + 1 := min_eq_left hk
    rw [hsamples] at hmid
    change Received _ (topBits (TxPos.wait (k + 1)).samples u.rxSr) _ _
    rw [hsamples', hrow.rxSr_of_sample hq (hget _ rfl)]
    exact hmid.sample hk v
  · have hp : ∀ k, p ≠ .drive (k + 1) := fun k hp => hdata ⟨k, hp⟩
    rw [hrow.topBits_of_no_sample h _ _ hp, readEvent_event _ _ hlow hp]
    exact hmid.next (fun d hd => (h.dlyCnt d hd).1) hmore

/-- What a cycle of a READ can be: it moves on, a read fails, the check finds HIGH, or the last wait ends. -/
theorem RxAt.row_cases (h : RxAt p s) (hrow : SeqRow s u) :
    RxMoves p s u ∨
    (∃ k e, p = .drive k ∧ u.trace = s.trace ++ [.rxGet (.err e), .rsp (.errBus e)]) ∨
    (p = .drive 0 ∧ u.trace = s.trace ++ [.rxGet (.ok .high), .rsp .errInvalidInterrupt]) ∨
    (p = .wait 9 ∧ u.trace = s.trace ++ [.poll .elapsed, .rsp (.okByte s.rxSr)]) := by
  have moves {v : Level} (hget : ∀ k, p = .drive k → s.pinGetAnswer = .ok v)
      (hlow : p = .drive 0 → v = .low) (hmore : p = .wait 9 → s.pollAnswer = .notYet) :
      RxMoves p s u := by
    obtain ⟨t, x, -, hf, hmoves⟩ := h.exists_moves hget hlow hmore
    rwa [hrow.unique hf.row]
  cases p with
  | drive k =>
    cases ha : s.pinGetAnswer with
    | err e =>
      refine .inr (.inl ⟨k, e, rfl, ?_⟩)
      cases k with
      | zero => simp [hrow.unique (.rxCheckErr e h.seq ha), ha]
      | succ k => simp [hrow.unique (.rxDataErr e h.sampling.2 ha), ha]
    | ok v =>
      cases k with
      | succ k => exact .inl (moves (fun _ _ => ha) nofun nofun)
      | zero =>
        cases v with
        | low => exact .inl (moves (fun _ _ => ha) (fun _ => rfl) nofun)
        | high =>
          exact .inr (.inr (.inl ⟨rfl, by simp [hrow.unique (.rxCheckHigh h.seq ha), ha]⟩))
  | treset | align d => exact .inl (moves (v := .low) nofun nofun nofun)
  | wait k =>
    by_cases hlast : k = 9 ∧ s.pollAnswer = .elapsed
    · obtain ⟨rfl, ha⟩ := hlast
      exact .inr (.inr (.inr ⟨rfl, by simp [hrow.unique (.rxWaitStop h.seq ha), ha]⟩))
    · refine .inl (moves (v := .low) nofun nofun fun hp => ?_)
      cases ha : s.pollAnswer with
      | notYet => rfl
      | elapsed => exact absurd ⟨TxPos.wait.inj hp, ha⟩ hlast

/-! ### The answers of a READ -/

/-- What stands before each answer of a READ: nine reads, each with its wait, and one wait more; a check that
finds HIGH; or the reads before a failing one (R132, R133, R138, R139). -/
inductive ReadAnswer (nalign : BitVec 3) : List Event → Result → Prop
  | ok (r : Byte) (w : Nat → Nat) :
      ReadAnswer nalign (rxCells nalign r w 9 ++ waitEvents (w 9)) (.okByte r)
  | high : ReadAnswer nalign [.rxGet (.ok .high)] .errInvalidInterrupt
  | err (k : Nat) (e : ErrCode) (r : Byte) (w : Nat → Nat) (hk : k < 9) :
      ReadAnswer nalign (rxCells nalign r w k ++ [.rxGet (.err e)]) (.errBus e)

/-- A running READ stands at a position and has read the events up to there, with the bits sampled. -/
def Reading (nalign : BitVec 3) (s : State) (mid : List Event) : Prop :=
  s.nalign = nalign ∧ ∃ p, RxAt p s ∧ Received nalign (topBits p.samples s.rxSr) p mid

theorem RxMoves.reading (h : RxMoves p s u) (hrow : SeqRow s u)
    (hmid : Received s.nalign (topBits p.samples s.rxSr) p mid) :
    ∃ e, inner [e] = true ∧ u.trace = s.trace ++ [e] ∧ Reading s.nalign u (mid ++ [e]) := by
  obtain ⟨-, -, hnalign, -⟩ := hrow.parameters
  obtain ⟨hpos, e, he, htr, hnext⟩ := h
  exact ⟨e, he, htr, hnalign, _, hpos, hnext mid hmid⟩

/-- The first `k` reads depend on their own waits only. -/
theorem rxCells_congr {w w' : Nat → Nat} (h : ∀ j < k, w j = w' j) :
    rxCells nalign r w k = rxCells nalign r w' k := by
  rw [← map_asRead_txCells, ← map_asRead_txCells, txCells_congr h]

/-- The last wait of a READ ends with the answer, all eight bits sampled. -/
theorem Received.readAnswer (h : Received nalign r (.wait 9) mid) :
    ReadAnswer nalign (mid ++ [.poll .elapsed]) (.okByte r) := by
  cases h with
  | cells hp => simp [TxPos.cellIndex] at hp
  | stop w n =>
    have hcongr : rxCells nalign r w 9 = rxCells nalign r (Function.update w 9 n) 9 :=
      rxCells_congr fun j hj => (Function.update_of_ne (Nat.ne_of_lt hj) n w).symm
    rw [List.append_assoc, hcongr]
    have hok := ReadAnswer.ok (nalign := nalign) r (Function.update w 9 n)
    rwa [Function.update_self] at hok

theorem tracks_reading (nalign : BitVec 3) : Tracks (Reading nalign) (ReadAnswer nalign) where
  busy := by
    rintro s mid ⟨-, p, hat, -⟩
    exact hat.ne_idle
  edge := by
    rintro s mid ⟨rfl, p, hat, hmid⟩
    exact ⟨by simp, p, hat.clockEdge, by simpa using hmid⟩
  row := by
    rintro s mid u ⟨rfl, p, hat, hmid⟩ hrow
    obtain hmoves | ⟨k, e, rfl, htr⟩ | ⟨rfl, htr⟩ | ⟨rfl, htr⟩ := hat.row_cases hrow
    · obtain ⟨e, he, htr, hreading⟩ := hmoves.reading hrow hmid
      exact .operation e he htr hreading
    · have hk : k ≤ 9 := hat.cell_le
      have hk9 : k ≠ 9 := by rintro rfl; exact hat.ne_stop rfl
      obtain ⟨w, rfl⟩ := hmid.of_drive
      exact .answer _ _ rfl htr (.err k e _ w (by omega))
    · obtain ⟨w, rfl⟩ := hmid.of_drive
      exact .answer _ _ rfl htr .high
    · rw [topBits_last_wait] at hmid
      exact .answer _ _ rfl htr hmid.readAnswer

/-- The acceptance of a READ begins its frame (R131). -/
theorem BlockStep.read_accepted (h : BlockStep s u) (hc : .cmd .read ∈ newEvents s u) :
    u = acceptRead s := by
  cases h with
  | reset => exact absurd hc ((acceptsNothing_of_silent rfl).not_mem_newEvents _)
  | row _ _ hrow => exact absurd hc (hrow.acceptsNothing.not_mem_newEvents _)
  | write => simp [newEvents] at hc
  | flush => simp [newEvents] at hc
  | read => rfl

/-- A READ that has just been accepted has read nothing. -/
theorem reading_acceptRead (s : State) : Reading s.nalign (clockEdge (acceptRead s)) [] :=
  ⟨by simp [acceptRead], _, (rxAt_acceptRead s).clockEdge, received_drive (fun _ => 0) (by decide)⟩

/-- The events and the answer of every answered READ. -/
theorem Answered.readAnswer {a : Result} (h : Answered s .read mid a) :
    ReadAnswer s.nalign mid a := by
  obtain ⟨n, t, hrun, htrace, hinner⟩ := h
  obtain ⟨s₀, u, m, hu, hmem, hnalign, hrun, htrace⟩ := accepted_of_answered hrun htrace
  obtain rfl := hu.read_accepted hmem
  obtain ⟨more, hmore, ht⟩ := events_of_first_cycle (acceptRead_trace s₀) hrun htrace
  obtain ⟨-, rfl⟩ := List.cons.inj hmore
  rw [← hnalign]
  simpa using (tracks_reading s₀.nalign).answer (reading_acceptRead s₀) hrun hinner ht

/-- Settles O43: `OK_BYTE` is answered after the last wait only. -/
theorem readSuccessTrace : Obligations.ReadSuccessTrace := by
  intro s mid r h
  cases h.readAnswer with
  | ok _ w => exact ⟨w, rfl⟩

/-- Settles O44: the two other answers are those of the check and of a failing read. -/
theorem readFailureTrace : Obligations.ReadFailureTrace := by
  intro s mid a h hno
  cases h.readAnswer with
  | ok r w => exact absurd rfl (hno r)
  | high => exact .inl ⟨rfl, rfl⟩
  | err k e r w hk => exact .inr ⟨k, e, r, w, hk, rfl, rfl⟩

/-! ### The round trip -/

theorem levelsRead_append (evs evs' : List Event) :
    levelsRead (evs ++ evs') = levelsRead evs ++ levelsRead evs' := by
  simp [levelsRead]

theorem levelsRead_waitEvents (n : Nat) : levelsRead (waitEvents n) = [] := by
  simp [levelsRead, waitEvents]

/-- One read more, with its wait. -/
theorem rxCells_succ (nalign : BitVec 3) (r : Byte) (w : Nat → Nat) (k : Nat) :
    rxCells nalign r w (k + 1) =
      rxCells nalign r w k ++ (.rxGet (.ok (cell r k)) :: cellClock nalign k ++ waitEvents (w k)) := by
  simp [rxCells, List.range_succ]

/-- A READ of `r` reads the cells of `r`. -/
theorem levelsRead_rxCells (nalign : BitVec 3) (r : Byte) (w : Nat → Nat) (k : Nat) :
    levelsRead (rxCells nalign r w k) = (List.range k).map (cell r) := by
  have hclock (j : Nat) : levelsRead (cellClock nalign j) = [] := by
    unfold cellClock
    split_ifs <;> simp [levelsRead]
  have hcell (j : Nat) :
      levelsRead (.rxGet (.ok (cell r j)) :: cellClock nalign j ++ waitEvents (w j)) = [cell r j] :=
    calc levelsRead (.rxGet (.ok (cell r j)) :: cellClock nalign j ++ waitEvents (w j))
        = cell r j :: levelsRead (cellClock nalign j ++ waitEvents (w j)) := rfl
      _ = [cell r j] := by rw [levelsRead_append, hclock, levelsRead_waitEvents]; rfl
  induction k with
  | zero => rfl
  | succ k ih =>
    rw [rxCells_succ, levelsRead_append, ih, hcell, List.range_succ, List.map_append,
      List.map_singleton]

theorem levelOfBit_inj {a b : Bool} (h : levelOfBit a = levelOfBit b) : a = b := by
  cases a <;> cases b <;> simp_all [levelOfBit]

/-- The first nine cells of a frame determine its byte (R135). -/
theorem eq_of_cells (h : (List.range 9).map (cell r) = (List.range 9).map (cell r')) : r = r' := by
  refine BitVec.eq_of_getLsbD_eq fun i hi => levelOfBit_inj ?_
  have hcell := List.map_eq_map_iff.1 h (i + 1) (List.mem_range.2 (by omega))
  rwa [cell_succ _ hi, cell_succ _ hi] at hcell

/-- Settles O45: nine levels are read by a READ that answers a byte only, and they are its cells. -/
theorem roundTripLaw : Obligations.RoundTripLaw := by
  intro s₁ s₂ b mid₁ mid₂ a hwrite hread hlevels
  obtain ⟨w, rfl⟩ : ∃ w, mid₁ = txCells s₁.nalign b w 10 := by
    cases hwrite.writeAnswer with
    | ok w => exact ⟨w, rfl⟩
  rw [levelsDriven_txCells, ← List.map_take, List.take_range] at hlevels
  cases hread.readAnswer with
  | ok r w =>
    rw [levelsRead_append, levelsRead_rxCells, levelsRead_waitEvents, List.append_nil] at hlevels
    rw [eq_of_cells hlevels]
  | high => simpa [levelsRead] using congrArg List.length hlevels
  | err k e r w hk =>
    have hlen := congrArg List.length hlevels
    rw [levelsRead_append, levelsRead_rxCells] at hlen
    simp [levelsRead] at hlen
    omega

end Sys2Proof.Machine
end

section
/-!
SUPPORT. A READ under the reference timer in which nothing fails: it keeps time with its companion, a WRITE at the
same place, so the bound on the cycles left of a WRITE bounds a READ too (40_timing_control.md R98, 42_receive.md
R143). Settles O53.
-/

namespace Sys2Proof.Machine

variable {s t u w x : State} {d : Byte} {p : TxPos} {n : Nat} {mid : List Event}

/-! ### One calm cycle -/

/-- In a calm cycle a pin read answers the level of the receive line. -/
theorem Calm.pinGet (h : Calm (n + 1) s) : s.pinGetAnswer = .ok s.now.rxpLevel := by
  obtain ⟨-, -, hok⟩ := h.2 s.now (by simp)
  exact pinGetAnswer_ok hok

/-- A READ at a position under the reference timer, with nothing on the command port. -/
structure RxTimedAt (p : TxPos) (s : State) : Prop extends RxAt p s where
  port : s.cmdPort = none
  kind : s.timerKind = .contract

theorem RxTimedAt.timedAt_companion (h : RxTimedAt p s) : TimedAt 0#8 p (companion p s) :=
  ⟨h.txAt_companion, h.port, h.kind⟩

theorem calm_companion (p : TxPos) (hc : Calm (n + 1) s) : Calm 1 (companion p s) := by
  obtain ⟨hn, -, hok⟩ := hc.2 s.now (by simp)
  exact ⟨by omega, fun q hq => by
    obtain rfl : q = (companion p s).now := by simpa using hq
    exact ⟨hn, rfl, hok⟩⟩

theorem RxTimedAt.pollAnswer_eq_notYet (h : RxTimedAt p s) (hf : s.tFlag = false) :
    s.pollAnswer = .notYet := by
  simp [pollAnswer_contract h.kind, hf]

/-- What one calm cycle does at position `p`, the command not answered in it: the READ moves on, and its
companion's timer counts as its own. -/
structure RxTimedStep (p : TxPos) (s t : State) : Prop where
  moves : RxMoves p s t
  port : t.cmdPort = none
  kind : t.timerKind = .contract
  txLine : t.txLine = s.txLine
  beside : ∃ x, TimedStep 0#8 p (companion p s) x ∧ Twin t x

theorem RxTimedStep.pos (h : RxTimedStep p s t) :
    RxTimedAt (p.rxNext s.nalign.toNat s.pollAnswer) t :=
  ⟨h.moves.pos, h.port, h.kind⟩

theorem RxTimedAt.step (h : RxTimedAt p s) (hc : Calm (n + 1) s)
    (hlow : p = .drive 0 → s.now.rxpLevel = .low) (hmore : p = .wait 9 → s.tFlag = false) :
    ∃ t, step s = .next t ∧ Calm n t ∧ RxTimedStep p s t := by
  obtain ⟨u, x, hrowx, hf, hmoves⟩ := h.exists_moves (fun _ _ => hc.pinGet) hlow fun hp =>
    h.pollAnswer_eq_notYet (hmore hp)
  have hcalm := calm_companion p hc
  obtain ⟨y, hstep, -, hy⟩ := h.timedAt_companion.step hcalm hmore
  obtain rfl : clockEdge x = y := Host.Outcome.next.inj
    ((step_of_blockStep (h.timedAt_companion.blockStep hcalm hrowx)).symm.trans hstep)
  obtain ⟨hport, -, -, hlater, -⟩ := hf.row.outside
  obtain ⟨-, hkind, -, -⟩ := hf.row.parameters
  obtain ⟨-, -, -, -, -, hline, -⟩ := hf.row.inside_of_rx h.isRx
  refine ⟨_, step_of_blockStep (.row hc.now.1 (by simp [h.port]) hf.row), hc.clockEdge hlater,
    hmoves.clockEdge, ?_, ?_, ?_, _, hy, hf.twin.clockEdge⟩
  · rw [clockEdge_cmdPort_of_busy hmoves.pos.ne_idle, hport, h.port]
  · rw [clockEdge_timerKind, hkind, h.kind]
  · rw [clockEdge_txLine, hline]

/-- The last cycle of a READ: the byte of the eight samples is answered (R131). -/
theorem RxTimedAt.last_step (h : RxTimedAt (.wait 9) s) (hc : Calm (n + 1) s)
    (hf : s.tFlag = true) :
    ∃ t, Machine.step s = .next t ∧ t.seq = .idle ∧ t.txLine = s.txLine ∧
      t.trace = s.trace ++ [.poll .elapsed, .rsp (.okByte s.rxSr)] ∧
      t.out.rspStatus = 0b00#2 ∧ t.out.rspData = s.rxSr := by
  have ha : s.pollAnswer = .elapsed := by simp [pollAnswer_contract h.kind, hf]
  exact ⟨_, step_of_blockStep (.row hc.now.1 (by simp [h.port]) (.rxWaitStop h.seq ha)), by simp,
    by simp, by simp [ha], by simp, by simp⟩

/-! ### The acceptance -/

/-- The first cycle of a presented READ. -/
theorem step_of_presents_read (h : Presents s (.read d)) (hk : s.timerKind = .contract)
    (hc : Calm (n + 1) s) :
    step s = .next (clockEdge (acceptRead s)) ∧ Calm n (clockEdge (acceptRead s)) ∧
      RxTimedAt (.drive 0) (clockEdge (acceptRead s)) :=
  ⟨step_of_blockStep (blockStep_acceptRead h), hc.clockEdge rfl,
    (rxAt_acceptRead s).clockEdge, clockEdge_acceptRead_cmdPort s, hk⟩

/-- The inputs of a cycle are the next that are listed. -/
theorem clockEdge_inputs (h : u.later ≠ []) :
    (clockEdge u).now :: (clockEdge u).later = u.later := by
  cases hl : u.later with
  | nil => exact absurd hl h
  | cons p ps => simp [hl]

/-- The check reads the level of the cycle after the acceptance. -/
theorem rxpLevel_after_acceptance (hc : Calm (n + 2) s)
    (h : ∀ p, s.later.head? = some p → p.rxpLevel = .low) :
    (clockEdge (acceptRead s)).now.rxpLevel = .low := by
  obtain ⟨hlen, -⟩ := hc
  have hne : (acceptRead s).later ≠ [] := by
    intro hl
    rw [acceptRead_later] at hl
    simp [hl] at hlen
  refine h _ ?_
  rw [← acceptRead_later s, ← clockEdge_inputs hne, List.head?_cons]

/-! ### The cycles left -/

/-- The bound looks at the timer and the parameters only. -/
theorem Twin.txCyclesLeft_eq (h : Twin s w) (p : TxPos) : txCyclesLeft s p = txCyclesLeft w p := by
  cases p <;> simp only [txCyclesLeft, cyclesToFlag, h.nalign, h.period, h.tFlag, h.tCnt]

theorem Twin.timerSet_iff (h : Twin s w) (p : TxPos) : TimerSet p s ↔ TimerSet p w := by
  rw [TimerSet, TimerSet, h.tCnt, h.period]

theorem txCyclesLeft_skipStop (s : State) (p : TxPos) :
    txCyclesLeft s p.skipStop ≤ txCyclesLeft s p := by
  by_cases hp : p = .drive 9
  · subst hp
    have hflag := cyclesToFlag_le s
    simp only [TxPos.skipStop_drive_nine, txCyclesLeft]
    omega
  · rw [TxPos.skipStop_of_ne hp]

theorem TimerSet.skipStop (h : TimerSet p s) : TimerSet p.skipStop s := by
  by_cases hp : p = .drive 9
  · subst hp
    obtain h | h | h := h
    · cases h
    · cases h
    · exact .inr (.inr h)
  · rwa [TxPos.skipStop_of_ne hp]

/-- Every cycle of a READ lowers the bound, as it does for its companion. -/
theorem RxTimedStep.txCyclesLeft_lt (h : RxTimedStep p s t) (hat : RxTimedAt p s)
    (hs : TimerSet p s) (hmore : p = .wait 9 → s.tFlag = false) :
    txCyclesLeft t (p.rxNext s.nalign.toNat s.pollAnswer) < txCyclesLeft s p := by
  obtain ⟨x, hx, htwin⟩ := h.beside
  have hw := hat.twin_companion
  calc txCyclesLeft t (p.rxNext s.nalign.toNat s.pollAnswer)
      ≤ txCyclesLeft t (p.next s.nalign.toNat s.pollAnswer) := txCyclesLeft_skipStop _ _
    _ = txCyclesLeft x (p.next s.nalign.toNat s.pollAnswer) := htwin.txCyclesLeft_eq _
    _ < txCyclesLeft (companion p s) p :=
      hx.txCyclesLeft_lt hat.timedAt_companion ((hw.timerSet_iff p).1 hs) hmore
    _ = txCyclesLeft s p := (hw.txCyclesLeft_eq p).symm

theorem RxTimedStep.timerSet (h : RxTimedStep p s t) (hat : RxTimedAt p s) (hp : 1 ≤ s.period)
    (hs : TimerSet p s) : TimerSet (p.rxNext s.nalign.toNat s.pollAnswer) t := by
  obtain ⟨x, hx, htwin⟩ := h.beside
  exact ((htwin.timerSet_iff _).2
    (hx.timerSet hp ((hat.twin_companion.timerSet_iff p).1 hs))).skipStop

theorem RxTimedStep.period (h : RxTimedStep p s t) : t.period = s.period := by
  obtain ⟨x, hx, htwin⟩ := h.beside
  exact htwin.period.trans hx.period

theorem RxTimedStep.nalign (h : RxTimedStep p s t) : t.nalign = s.nalign := by
  obtain ⟨x, hx, htwin⟩ := h.beside
  exact htwin.nalign.trans hx.nalign

/-- The event of the cycle is read at its position. -/
theorem RxTimedStep.received (h : RxTimedStep p s t)
    (hmid : Received s.nalign (topBits p.samples s.rxSr) p mid) :
    ∃ e, t.trace = s.trace ++ [e] ∧
      Received t.nalign (topBits (p.rxNext s.nalign.toNat s.pollAnswer).samples t.rxSr)
        (p.rxNext s.nalign.toNat s.pollAnswer) (mid ++ [e]) := by
  obtain ⟨-, e, -, htr, hnext⟩ := h.moves
  refine ⟨e, htr, ?_⟩
  rw [h.nalign]
  exact hnext mid hmid

/-! ### The answer -/

/-- Only the first pin operation stands in the start cell. -/
theorem rxNext_ne_drive_zero (N : Nat) (a : PollAnswer) (p : TxPos) : p.rxNext N a ≠ .drive 0 := by
  have hsettling (d : Nat) : TxPos.settling d ≠ .drive 0 := by
    unfold TxPos.settling
    split_ifs <;> nofun
  have hnext : p.next N a ≠ .drive 0 := by
    cases p with
    | drive k =>
      simp only [TxPos.next]
      split_ifs <;> nofun
    | treset => exact hsettling N
    | align d => exact hsettling (d - 1)
    | wait k => cases a <;> simp [TxPos.next]
  unfold TxPos.rxNext TxPos.skipStop
  split_ifs
  · nofun
  · exact hnext

/-- A READ at a position is answered within the bound. -/
theorem RxTimedAt.answered {tr : List Event} (hat : RxTimedAt p s) (hp : 1 ≤ s.period)
    (hs : TimerSet p s) (hread : Received s.nalign (topBits p.samples s.rxSr) p mid)
    (htr : s.trace = tr ++ mid) (hlow : p = .drive 0 → s.now.rxpLevel = .low)
    (hn : txCyclesLeft s p ≤ n) (hc : Calm n s) :
    ∃ m ≤ n, ∃ t mid' r, run m s = .next t ∧ t.trace = tr ++ (mid' ++ [.rsp (.okByte r)]) ∧
      ReadAnswer s.nalign mid' (.okByte r) ∧ t.txLine = s.txLine ∧ t.seq = .idle := by
  induction n generalizing s p mid with
  | zero =>
    have hpos := txCyclesLeft_pos hat.txAt_companion
    rw [← hat.twin_companion.txCyclesLeft_eq] at hpos
    omega
  | succ n ih =>
    by_cases hlast : p = .wait 9 ∧ s.tFlag = true
    · obtain ⟨rfl, hf⟩ := hlast
      obtain ⟨t, hstep, hi, hline, ht, -, -⟩ := hat.last_step hc hf
      rw [topBits_last_wait] at hread
      exact ⟨1, by omega, t, mid ++ [.poll .elapsed], s.rxSr, run_succ_of_step hstep,
        by simp [ht, htr], hread.readAnswer, hline, hi⟩
    · have hmore : p = .wait 9 → s.tFlag = false := fun hp => by simpa using fun hf => hlast ⟨hp, hf⟩
      obtain ⟨v, hstep, hcv, hv⟩ := hat.step hc hlow hmore
      have hlt := hv.txCyclesLeft_lt hat hs hmore
      obtain ⟨e, hvt, hnext⟩ := hv.received hread
      obtain ⟨m, hm, t, mid', r, hrun, ht, ha, hline, hi⟩ := ih hv.pos (by rwa [hv.period])
        (hv.timerSet hat hp hs) hnext (by rw [hvt, htr, List.append_assoc])
        (fun h => absurd h (rxNext_ne_drive_zero _ _ p)) (by omega) hcv
      exact ⟨m + 1, by omega, t, mid', r, by rw [run_succ_of_step hstep, hrun], ht,
        by rwa [← hv.nalign], hline.trans hv.txLine, hi⟩

theorem inner_map_asRead (evs : List Event) : inner (evs.map asRead) = inner evs := by
  induction evs with
  | nil => rfl
  | cons e evs ih =>
    have hone : inner [asRead e] = inner [e] := by
      cases e with
      | txSet v a => cases a <;> rfl
      | _ => rfl
    calc inner (asRead e :: evs.map asRead)
        = (inner [asRead e] && inner (evs.map asRead)) := inner_append [_] _
      _ = inner (e :: evs) := by rw [hone, ih, ← inner_append]; rfl

/-- The events and the levels of a READ that is answered a byte. -/
theorem ReadAnswer.levels {nalign : BitVec 3} {r : Byte} (h : ReadAnswer nalign mid (.okByte r)) :
    inner mid = true ∧ levelsRead mid = (List.range 9).map (cell r) := by
  cases h with
  | ok _ w =>
    have hwait : inner (waitEvents (w 9)) = true := by
      simp [waitEvents, inner, Event.isCmd, Event.isRsp]
    constructor
    · rw [inner_append, ← map_asRead_txCells, inner_map_asRead, inner_txCells, hwait]
      rfl
    · rw [levelsRead_append, levelsRead_rxCells, levelsRead_waitEvents, List.append_nil]

/-- Settles O53: the acceptance, then the bound on the cycles left at the check. -/
theorem readIsAnsweredForEveryPeriod : Obligations.ReadIsAnsweredForEveryPeriod := by
  intro s d hpres hk hp hc hlow
  obtain ⟨hstep, hcu, hat⟩ := step_of_presents_read hpres hk hc
  have hread := rxpLevel_after_acceptance hc hlow
  have hleft : txCyclesLeft (clockEdge (acceptRead s)) (.drive 0) ≤
      s.nalign.toNat + 10 * s.period + 23 := by
    change s.nalign.toNat + 1 + 10 * (s.period + 2) ≤ s.nalign.toNat + 10 * s.period + 23
    omega
  obtain ⟨m, hm, t, mid, r, hrun, ht, ha, hline, hi⟩ := hat.answered hp (.inl rfl)
    (received_drive (fun _ => 0) (by decide)) (tr := s.trace ++ [.cmd .read]) (by simp [rxCells])
    (fun _ => hread) hleft hcu
  obtain ⟨hinner, hlevels⟩ := ha.levels
  refine ⟨m + 1, t, mid, r, by omega, by rw [run_succ_of_step hstep, hrun], ?_, hinner, hlevels,
    hline, hi⟩
  rw [ht, List.append_assoc]
  rfl

end Sys2Proof.Machine
end

section
/-!
SUPPORT. The timetable of a READ under the reference timer, for a period of at least `NALIGN` and 2 cycles: a READ
that finds LOW runs beside a WRITE that is accepted in the same cycle, so the column READ of the table follows from
the column WRITE (70_reset_and_hazards.md R197); and which cycles its samples are taken in (42_receive.md R130,
R135). Settles O49 and O51.
-/

namespace Sys2Proof.Machine

variable {s t u w x s₀ : State} {b d : Byte} {p : TxPos} {n m N P j k : Nat}

/-! ### What a cycle of a READ shows -/

/-- The operation of each row of READ at the ports and in the trace, and where the answer is. -/
theorem SeqRow.shows_of_rx {v : Level} (h : SeqRow s t) (hq : s.seq.isRx = true)
    (hget : s.pinGetAnswer = .ok v) (hlow : s.seq = .rxCheck → v = .low) :
    (t.out.rxpReq = true ↔ s.seq = .rxCheck ∨ s.seq = .rxData) ∧
    (t.out.tmrReset = true ↔ s.seq = .rxTreset) ∧
    (.nop ∈ newEvents s t ↔ s.seq = .rxAlign) ∧
    (t.out.tmrPoll = true ↔ s.seq.isWait = true) ∧
    (.poll .elapsed ∈ newEvents s t ↔ s.seq.isWait = true ∧ s.pollAnswer = .elapsed) ∧
    (t.out.rspValid = true ↔ s.seq = .rxWaitStop ∧ s.pollAnswer = .elapsed) ∧
    (t.cmdReady = true ↔ s.seq = .rxWaitStop ∧ s.pollAnswer = .elapsed) := by
  cases h with
  | idle h | txStartErr _ h | txDataErr _ h | txStopErr _ h | txStart h | txTresetSkip h
  | txTreset h | txAlignLast h | txAlign h | txWaitStart h | txData h | txWaitData h
  | txWaitDataLast h | txStop h | txWaitStop h => simp [h, Seq.isRx] at hq
  | rxCheckErr _ _ ha | rxDataErr _ _ ha => simp [hget] at ha
  | rxCheckHigh h ha => simp [hget, hlow h] at ha
  | notYet h ha =>
    rcases h with h | h | h | h | h | h <;>
      simp [h, ha, newEvents, PortOut.quiet, Seq.isWait, State.cmdReady, State.busy]
  | rxCheckLow h ha | rxData _ h ha | rxTresetSkip h | rxTreset h | rxAlignLast h | rxAlign h
  | rxWaitStart h ha | rxWaitData h ha | rxWaitDataLast h ha | rxWaitStop h ha =>
    simp [*, newEvents, PortOut.quiet, Seq.isWait, State.cmdReady, State.busy]

/-- Which states of READ stand for which of WRITE: all but the stop cell's drive keep their kind. -/
theorem twin_iff {q : Seq} (hq : q.isTx = true) :
    (q.twin = .rxCheck ∨ q.twin = .rxData ↔
      (q = .txStart ∨ q = .txData ∨ q = .txStop) ∧ q ≠ .txStop) ∧
    (q.twin = .rxTreset ↔ q = .txTreset) ∧ (q.twin = .rxAlign ↔ q = .txAlign) ∧
    (q.twin.isWait = true ↔ q.isWait = true ∨ q = .txStop) ∧
    (q.twin = .rxWaitStop ↔ q = .txWaitStop ∨ q = .txStop) := by
  cases q <;> simp_all [Seq.isTx, Seq.twin, Seq.isWait]

theorem twin_eq_rxCheck {q : Seq} (hq : q.isTx = true) (h : q.twin = .rxCheck) : q = .txStart := by
  cases q <;> simp_all [Seq.isTx, Seq.twin]

/-- A cycle of a READ beside one of its twin, pin operation by pin operation: the stop cell's drive has no read
beside it but a poll that finds nothing, and everything else is alike. -/
theorem Twin.shows {v : Level} (h : Twin s w) (hs : SeqRow s t) (hw : SeqRow w x)
    (hset : w.pinSetAnswer = .ok) (hpoll : s.pollAnswer = w.pollAnswer)
    (hget : s.pinGetAnswer = .ok v) (hlow : w.seq = .txStart → v = .low)
    (hstop : w.seq = .txStop → s.pollAnswer = .notYet) :
    (t.out.rxpReq = true ↔ x.out.txpReq = true ∧ w.seq ≠ .txStop) ∧
    (t.out.tmrReset = true ↔ x.out.tmrReset = true) ∧
    (.nop ∈ newEvents s t ↔ .nop ∈ newEvents w x) ∧
    (t.out.tmrPoll = true ↔ x.out.tmrPoll = true ∨ w.seq = .txStop) ∧
    (.poll .elapsed ∈ newEvents s t ↔ .poll .elapsed ∈ newEvents w x) ∧
    (t.out.rspValid = true ↔ x.out.rspValid = true) ∧ (t.cmdReady = true ↔ x.cmdReady = true) := by
  have hrx : s.seq.isRx = true := by rw [h.seq]; exact isRx_twin h.tx
  obtain ⟨hread, hreset, hnop, hpollR, helapsed, hrsp, hready⟩ := hs.shows_of_rx hrx hget fun hq =>
    hlow (twin_eq_rxCheck h.tx (h.seq ▸ hq))
  obtain ⟨hdrive, hresetW, hnopW, hpollW, helapsedW, hrspW, hreadyW⟩ := hw.shows_of_tx h.tx hset
  obtain ⟨hpins, htreset, halign, hwait, hlast⟩ := twin_iff h.tx
  have hnotElapsed : w.seq = .txStop → w.pollAnswer ≠ .elapsed := fun hq => by
    simp [← hpoll, hstop hq]
  have helapsed_iff (a : Prop) : (a ∨ w.seq = .txStop) ∧ w.pollAnswer = .elapsed ↔
      a ∧ w.pollAnswer = .elapsed :=
    and_congr_left fun he => or_iff_left fun hq => hnotElapsed hq he
  rw [h.seq] at hread hreset hnop hpollR helapsed hrsp hready
  rw [hpoll] at helapsed hrsp hready
  exact ⟨by rw [hread, hpins, hdrive], by rw [hreset, htreset, hresetW], by rw [hnop, halign, hnopW],
    by rw [hpollR, hwait, hpollW], by rw [helapsed, hwait, helapsed_iff, helapsedW],
    by rw [hrsp, hlast, helapsed_iff, hrspW], by rw [hready, hlast, helapsed_iff, hreadyW]⟩

/-- Beside each row of a WRITE that does not fail there is a row of READ. -/
theorem Twin.exists_row {v : Level} (h : Twin s w) (hrow : SeqRow w x) (hset : w.pinSetAnswer = .ok)
    (hpoll : s.pollAnswer = w.pollAnswer) (hget : s.pinGetAnswer = .ok v)
    (hlow : w.seq = .txStart → v = .low) (hstop : w.seq = .txStop → s.pollAnswer = .notYet) :
    ∃ t, SeqRow s t ∧ (x.seq ≠ .idle → Follows v s t w x) := by
  by_cases hi : x.seq = .idle
  · obtain ⟨-, -, -, -, -, -, hready⟩ := hrow.shows_of_tx h.tx hset
    obtain ⟨hq, ha⟩ := hready.1 (by simp [State.cmdReady, busy_eq_false.2 hi])
    have hseq : s.seq = .rxWaitStop := by rw [h.seq, hq]; rfl
    exact ⟨_, .rxWaitStop hseq (hpoll.trans ha), fun hne => absurd hi hne⟩
  · obtain ⟨t, ht⟩ := h.exists_follows hrow hi hset hpoll (fun _ => hget) hlow hstop
    exact ⟨t, ht.row, fun _ => ht⟩

/-! ### The table -/

/-- The column READ of the table of R197 in cycle `m`: a step from `s` to `t` shows what the table says. -/
def ShowsReadCycle (m N P : Nat) (s t : State) : Prop :=
  (t.out.rxpReq = true ↔ m = 1 ∨ ∃ j, 1 ≤ j ∧ j ≤ 8 ∧ m = 4 + j * P) ∧
  (t.out.tmrReset = true ↔ m = 2) ∧
  (.nop ∈ newEvents s t ↔ 3 ≤ m ∧ m ≤ 2 + N) ∧
  (t.out.tmrPoll = true ↔ 3 + N ≤ m ∧ ∀ j, 1 ≤ j → j ≤ 8 → m ≠ 4 + j * P) ∧
  (.poll .elapsed ∈ newEvents s t ↔ ∃ k, 1 ≤ k ∧ k ≤ 10 ∧ m = 3 + k * P) ∧
  (t.out.rspValid = true ↔ m = 3 + 10 * P) ∧ (t.cmdReady = true ↔ m = 3 + 10 * P)

/-- The column WRITE has one drive more, in the cycle in which READ begins its last wait. -/
theorem read_cycle_iff (hP : 2 ≤ P) :
    (m = 1 ∨ ∃ j, 1 ≤ j ∧ j ≤ 9 ∧ m = 4 + j * P) ∧ m ≠ 4 + 9 * P ↔
      m = 1 ∨ ∃ j, 1 ≤ j ∧ j ≤ 8 ∧ m = 4 + j * P := by
  constructor
  · rintro ⟨rfl | ⟨j, h1, h9, rfl⟩, hne⟩
    · exact .inl rfl
    · have hj : j ≠ 9 := by rintro rfl; exact hne rfl
      exact .inr ⟨j, h1, by omega, rfl⟩
  · rintro (rfl | ⟨j, h1, h8, rfl⟩)
    · exact ⟨.inl rfl, by omega⟩
    · have hmul : j * P ≤ 8 * P := Nat.mul_le_mul_right P h8
      exact ⟨.inr ⟨j, h1, by omega, rfl⟩, by omega⟩

theorem read_poll_iff (hN : N ≤ P) (hP : 2 ≤ P) :
    (3 + N ≤ m ∧ ∀ j, 1 ≤ j → j ≤ 9 → m ≠ 4 + j * P) ∨ m = 4 + 9 * P ↔
      3 + N ≤ m ∧ ∀ j, 1 ≤ j → j ≤ 8 → m ≠ 4 + j * P := by
  constructor
  · rintro (⟨hm, hne⟩ | rfl)
    · exact ⟨hm, fun j h1 h8 => hne j h1 (by omega)⟩
    · refine ⟨by omega, fun j _ h8 => ?_⟩
      have hmul : j * P ≤ 8 * P := Nat.mul_le_mul_right P h8
      omega
  · rintro ⟨hm, hne⟩
    by_cases h9 : m = 4 + 9 * P
    · exact .inr h9
    · refine .inl ⟨hm, fun j h1 hj => ?_⟩
      obtain rfl | h8 : j = 9 ∨ j ≤ 8 := by omega
      · exact h9
      · exact hne j h1 h8

/-- In the cycle of the acceptance the table has nothing. -/
theorem showsReadCycle_zero (hout : t.out = PortOut.quiet) (hev : newEvents s t = [.cmd .read])
    (hb : t.seq ≠ .idle) : ShowsReadCycle 0 N P s t := by
  have hready : t.cmdReady = false := by simp [State.cmdReady, busy_eq_true.2 hb]
  refine ⟨iff_of_false (by simp [hout, PortOut.quiet]) ?_,
    iff_of_false (by simp [hout, PortOut.quiet]) (by omega), iff_of_false (by simp [hev]) (by omega),
    iff_of_false (by simp [hout, PortOut.quiet]) (by omega), iff_of_false (by simp [hev]) ?_,
    iff_of_false (by simp [hout, PortOut.quiet]) (by omega),
    iff_of_false (by simp [hready]) (by omega)⟩
  · rintro (h | ⟨j, -, -, h⟩) <;> omega
  · rintro ⟨j, -, -, h⟩
    omega

/-! ### The WRITE beside it -/

theorem slot_eq_drive_iff (N k c : Nat) : slot N k c = .drive j ↔ 1 ≤ k ∧ c = 1 ∧ j = k := by
  unfold slot TxPos.settling
  split_ifs <;> simp <;> omega

/-- The drives of the data cells and the stop cell, by the timetable. -/
theorem Scheduled.timedAt_drive (h : Scheduled b w m) (hP : 2 ≤ w.period) (hj : 1 ≤ j)
    (hm : m = 4 + j * w.period) : TimedAt b (.drive j) w := by
  have hmul : w.period ≤ j * w.period := Nat.le_mul_of_pos_left _ hj
  cases h with
  | start | reset => omega
  | slot k c h hc =>
    obtain ⟨rfl, rfl⟩ := (period_split_iff hc (by omega : 1 < w.period)).1
      (by omega : k * w.period + c = j * w.period + 1)
    have hslot : Machine.slot w.nalign.toNat k 1 = .drive k :=
      (slot_eq_drive_iff _ _ _).2 ⟨hj, rfl, rfl⟩
    exact hslot ▸ h.pos

/-- The start bit's drive stands in cycle 1. -/
theorem Scheduled.of_txStart (h : Scheduled b w m) (hq : w.seq = .txStart) : m = 1 := by
  cases h with
  | start => rfl
  | reset h => simp [h.seq, TxPos.seq] at hq
  | slot k c h =>
    obtain ⟨hk, -, h0⟩ := (slot_eq_drive_iff _ _ _).1 (TxPos.eq_drive_zero (h.pos.seq ▸ hq))
    omega

/-- The stop bit's drive stands one cycle after the ninth boundary, and its flag is down there. -/
theorem Scheduled.of_txStop (h : Scheduled b w m) (hq : w.seq = .txStop) :
    m = 4 + 9 * w.period ∧ w.tFlag = false := by
  cases h with
  | start h | reset h => simp [h.seq, TxPos.seq] at hq
  | slot k c h =>
    have hslot : Machine.slot w.nalign.toNat k c = .drive 9 := by
      by_contra hne
      exact TxPos.seq_ne_txStop h.pos.cell_le hne (h.pos.seq ▸ hq)
    obtain ⟨-, rfl, rfl⟩ := (slot_eq_drive_iff _ _ _).1 hslot
    exact ⟨by omega, by simp [h.tFlag]⟩

theorem Scheduled.txStop_iff (h : Scheduled b w m) (hP : 2 ≤ w.period) :
    w.seq = .txStop ↔ m = 4 + 9 * w.period :=
  ⟨fun hq => (h.of_txStop hq).1, fun hm => (h.timedAt_drive hP (by omega) hm).seq⟩

theorem Scheduled.ne_idle (h : Scheduled b w m) : w.seq ≠ .idle := by
  cases h with
  | start h | reset h => exact h.ne_idle
  | slot k c h => exact h.pos.ne_idle

/-- A step of a busy block out of reset is a row of the step tables. -/
theorem row_of_step (h : step w = .next t) (hn : w.now.rstN = true) (hb : w.seq ≠ .idle) :
    ∃ x, SeqRow w x ∧ t = clockEdge x := by
  obtain ⟨x, rfl, hx⟩ := blockStep_of_step h
  cases hx with
  | reset hr => simp [hn] at hr
  | row _ _ hrow => exact ⟨x, hrow, rfl⟩
  | write _ _ _ hi | flush _ _ _ hi | read _ _ _ hi => exact absurd hi hb

/-! ### The run of a READ -/

/-- A READ at the beginning of cycle `m` since its acceptance in `s₀`, and the WRITE that runs beside it. -/
structure ReadBeside (s₀ : State) (m : Nat) (s w : State) : Prop where
  write : Scheduled 0#8 w m
  twin : Twin s w
  port : s.cmdPort = none
  kind : s.timerKind = .contract
  inputs : s.now :: s.later = (s₀.now :: s₀.later).drop m
  txLine : s.txLine = s₀.txLine
  period : s.period = s₀.period
  events : ∃ mid, s.trace = s₀.trace ++ (.cmd .read :: mid) ∧ inner mid = true ∧
    Reading s₀.nalign s mid

theorem ReadBeside.nalign (h : ReadBeside s₀ m s w) : s.nalign = s₀.nalign := by
  obtain ⟨mid, -, -, hnalign, -⟩ := h.events
  exact hnalign

theorem ReadBeside.write_period (h : ReadBeside s₀ m s w) : w.period = s₀.period :=
  h.twin.period.symm.trans h.period

theorem ReadBeside.write_nalign (h : ReadBeside s₀ m s w) : w.nalign = s₀.nalign :=
  h.twin.nalign.symm.trans h.nalign

theorem ReadBeside.pollAnswer (h : ReadBeside s₀ m s w) : s.pollAnswer = w.pollAnswer := by
  rw [pollAnswer_contract h.kind, pollAnswer_contract (h.twin.timerKind ▸ h.kind), h.twin.tFlag]

/-- One cycle of both: the READ shows what the table says, and follows the WRITE. -/
theorem ReadBeside.exists_rows (h : ReadBeside s₀ m s w) (hN : s₀.nalign.toNat ≤ s₀.period)
    (hP : 2 ≤ s₀.period) (hm : m < 4 + 10 * s₀.period) (hcs : Calm (n + 1) s)
    (hcw : Calm (n + 1) w) (hlow : m = 1 → s.now.rxpLevel = .low) :
    ∃ t x, SeqRow s t ∧ step s = .next (clockEdge t) ∧ step w = .next (clockEdge x) ∧
      ShowsReadCycle m s₀.nalign.toNat s₀.period s t ∧
      (x.seq ≠ .idle → Follows s.now.rxpLevel s t w x) := by
  have hperiod := h.write_period
  have hnalign := h.write_nalign
  obtain ⟨y, hstep, hshows⟩ := h.write.shows (by rwa [hperiod, hnalign]) (by rwa [hperiod])
    (by rwa [hperiod]) hcw
  obtain ⟨hn, hset⟩ := hcw.now
  obtain ⟨x, hrow, rfl⟩ := row_of_step hstep hn h.write.ne_idle
  have hlow' : w.seq = .txStart → s.now.rxpLevel = .low := fun hq => hlow (h.write.of_txStart hq)
  have hstop : w.seq = .txStop → s.pollAnswer = .notYet := fun hq => by
    rw [pollAnswer_contract h.kind, h.twin.tFlag, (h.write.of_txStop hq).2]
    rfl
  obtain ⟨t, ht, hfollows⟩ := h.twin.exists_row hrow hset h.pollAnswer hcs.pinGet hlow' hstop
  refine ⟨t, x, ht, step_of_blockStep (.row hcs.now.1 (by simp [h.port]) ht), hstep, ?_, hfollows⟩
  obtain ⟨hread, hreset, hnop, hpoll, helapsed, hrsp, hready⟩ :=
    h.twin.shows ht hrow hset h.pollAnswer hcs.pinGet hlow' hstop
  have htxStop := h.write.txStop_iff (by rwa [hperiod])
  rw [hperiod] at htxStop
  rw [hperiod, hnalign] at hshows
  obtain ⟨hreadW, hresetW, hnopW, hpollW, helapsedW, hrspW, hreadyW⟩ := hshows
  refine ⟨?_, hreset.trans hresetW, hnop.trans ?_, ?_, helapsed.trans ?_, hrsp.trans hrspW,
    hready.trans ?_⟩
  · rw [hread, ← read_cycle_iff hP, ← hreadW, Ne, htxStop]
    rfl
  · rwa [newEvents_clockEdge] at hnopW
  · rw [hpoll, ← read_poll_iff hN hP, ← hpollW, htxStop]
    rfl
  · rwa [newEvents_clockEdge] at helapsedW
  · rwa [State.cmdReady, State.busy, clockEdge_seq] at hreadyW

/-- The READ of the next cycle, before the last one. -/
theorem ReadBeside.step (h : ReadBeside s₀ m s w) (hN : s₀.nalign.toNat ≤ s₀.period)
    (hP : 2 ≤ s₀.period) (hm : m < 3 + 10 * s₀.period) (hcs : Calm (n + 2) s)
    (hcw : Calm (n + 2) w) (hlow : m = 1 → s.now.rxpLevel = .low) :
    ∃ t x, Machine.step s = .next t ∧ Calm (n + 1) t ∧ Calm (n + 1) x ∧
      ReadBeside s₀ (m + 1) t x := by
  have hperiod := h.write_period
  have hnalign := h.write_nalign
  obtain ⟨t, x, hrow, hstep, hstepW, -, hfollows⟩ := h.exists_rows hN hP (by omega) hcs hcw hlow
  obtain ⟨y, hstepY, hcy, -, -, hy⟩ := h.write.step (by rwa [hperiod, hnalign]) (by rwa [hperiod])
    (by rwa [hperiod]) hcw
  obtain rfl : clockEdge x = y := Host.Outcome.next.inj (hstepW.symm.trans hstepY)
  obtain ⟨-, htwin, e, he, htr, -⟩ := hfollows (by simpa using hy.ne_idle)
  obtain ⟨mid, hmid, hinner, hreading⟩ := h.events
  obtain ⟨hport, -, -, hlater, -⟩ := hrow.outside
  obtain ⟨hperiodT, hkind, -, -⟩ := hrow.parameters
  have hrx : s.seq.isRx = true := by rw [h.twin.seq]; exact isRx_twin h.twin.tx
  obtain ⟨-, -, -, -, -, hline, -⟩ := hrow.inside_of_rx hrx
  refine ⟨_, _, hstep, hcs.clockEdge hlater, hcy, hy, htwin.clockEdge, ?_, ?_, ?_, ?_, ?_, ?_⟩
  · rw [clockEdge_cmdPort_of_busy htwin.ne_idle, hport, h.port]
  · rw [clockEdge_timerKind, hkind, h.kind]
  · have hne : t.later ≠ [] := by
      obtain ⟨hlen, -⟩ := hcs
      rintro hl
      simp [← hlater, hl] at hlen
    rw [clockEdge_inputs hne, hlater, ← List.drop_drop, ← h.inputs]
    rfl
  · rw [clockEdge_txLine, hline, h.txLine]
  · rw [clockEdge_period, hperiodT, h.period]
  · cases (tracks_reading s₀.nalign).row hreading hrow with
    | answer e' r _ htr' => simp [htr] at htr'
    | operation e' he' htr' hP' =>
      exact ⟨mid ++ [e'], by rw [clockEdge_trace, htr', hmid]; simp,
        by rw [inner_append, hinner, he']; rfl, (tracks_reading s₀.nalign).edge hP'⟩

/-- The WRITE presented in the cycle in which the READ is. -/
def presentWrite (s : State) : State := { s with cmdPort := some (encode (.write 0#8)) }

/-- Both are accepted in cycle 0. -/
theorem readBeside_one (h : Presents s (.read d)) (hk : s.timerKind = .contract)
    (hc : Calm (n + 2) s) :
    ∃ x, Calm (n + 1) x ∧ ReadBeside s 1 (clockEdge (acceptRead s)) x := by
  obtain ⟨hi, hn, hp⟩ := h
  have hpresW : Presents (presentWrite s) (.write 0#8) := ⟨hi, hn, rfl⟩
  have hblock : BlockStep (presentWrite s) _ := .write hn rfl (decode_encode (.write 0#8)) hi
  obtain ⟨y, hstepY, hcy, hy, -⟩ := step_of_presents (n := n + 1) hpresW hk hc
  obtain rfl := Host.Outcome.next.inj ((step_of_blockStep hblock).symm.trans hstepY)
  obtain ⟨hlen, -⟩ := hc
  have hne : (acceptRead s).later ≠ [] := by
    rintro hl
    rw [acceptRead_later] at hl
    simp [hl] at hlen
  exact ⟨_, hcy, .start hy, Twin.clockEdge ⟨rfl, rfl, rfl, rfl, rfl, rfl, rfl, rfl, rfl, rfl⟩,
    clockEdge_acceptRead_cmdPort s, hk, clockEdge_inputs hne, rfl, rfl, [], rfl, rfl,
    reading_acceptRead s⟩

/-! ### The samples -/

/-- A run in two parts. -/
theorem run_add (h : run m s = .next u) (n : Nat) : run (m + n) s = run n u := by
  induction m generalizing s with
  | zero =>
    cases h
    rw [Nat.zero_add]
  | succ m ih =>
    obtain ⟨v, hv, hr⟩ := run_succ_cases h
    rw [Nat.add_right_comm, run_succ_of_step hv, ih hr]

/-- The state and the counter of a sample tell its position. -/
theorem RxAt.eq_drive (h : RxAt (.drive (k + 1)) s) (h' : RxAt p s) : p = .drive (k + 1) := by
  obtain ⟨hk, hq⟩ := h.sampling
  obtain ⟨j, rfl⟩ := h'.eq_drive_of_rxData hq
  obtain ⟨hj, -⟩ := h'.sampling
  have hcnt : BitVec.ofNat 4 k = BitVec.ofNat 4 j := h.rxCnt.symm.trans h'.rxCnt
  have heq : k = j := by bv_omega
  rw [heq]

/-- Before sample `k` the READ has read `k + 1` levels. -/
theorem ReadBeside.length_levelsRead (h : ReadBeside s₀ m s w) (hat : RxAt (.drive (k + 1)) s) :
    ∃ mid, s.trace = s₀.trace ++ (.cmd .read :: mid) ∧ (levelsRead mid).length = k + 1 := by
  obtain ⟨mid, hmid, -, -, p, hp, hread⟩ := h.events
  obtain rfl := hat.eq_drive hp
  obtain ⟨w, rfl⟩ := hread.of_drive
  exact ⟨_, hmid, by simp [levelsRead_rxCells]⟩

/-- The cycle of sample `k`. -/
theorem ReadBeside.rxAt_sample (h : ReadBeside s₀ m s w) (hP : 2 ≤ s₀.period) (hk : k < 8)
    (hm : m = 4 + (k + 1) * s₀.period) : RxAt (.drive (k + 1)) s := by
  have hperiod := h.write_period
  have hat := h.write.timedAt_drive (j := k + 1) (by rwa [hperiod]) (by omega) (by rwa [hperiod])
  have hne : TxPos.drive (k + 1) ≠ .drive 9 := fun heq => by
    have := TxPos.drive.inj heq
    omega
  simpa only [TxPos.skipStop_of_ne hne] using h.twin.rxAt hat.toTxAt

/-- The sample of a READ that goes on: its level comes after those read before it. -/
theorem ReadBeside.getElem_levelsRead (h : ReadBeside s₀ m s w) (hat : RxAt (.drive (k + 1)) s)
    (hc : Calm (n + 1) s) (hrun : run (n + 1) s = .next t) {evs : List Event}
    (ht : t.trace = s₀.trace ++ (.cmd .read :: evs)) :
    (levelsRead evs)[k + 1]? = some s.now.rxpLevel := by
  obtain ⟨mid, hmid, hlen⟩ := h.length_levelsRead hat
  have hrow : SeqRow s _ := .rxData s.now.rxpLevel hat.sampling.2 hc.pinGet
  rw [run_succ_of_step (step_of_blockStep (.row hc.now.1 (by simp [h.port]) hrow))] at hrun
  obtain ⟨rest, hrest, -⟩ := run_extendsLegally hrun
  have hevs : evs = mid ++ (.rxGet (.ok s.now.rxpLevel) :: rest) := by
    simpa [hmid, hc.pinGet] using ht.symm.trans hrest
  have hone : levelsRead (.rxGet (.ok s.now.rxpLevel) :: rest) = s.now.rxpLevel :: levelsRead rest :=
    rfl
  rw [hevs, levelsRead_append, hone, ← hlen, List.getElem?_append_right le_rfl, Nat.sub_self]
  rfl

theorem bitOfLevel_levelOfBit (a : Bool) : bitOfLevel (levelOfBit a) = a := by
  cases a <;> rfl

/-- The last cycle of the READ: it is in its last wait and the ten periods are over. -/
theorem ReadBeside.last (h : ReadBeside s₀ m s w) (hP : 2 ≤ s₀.period)
    (hm : m = 3 + 10 * s₀.period) : RxTimedAt (.wait 9) s ∧ s.tFlag = true := by
  have hperiod := h.write_period
  obtain ⟨hat, hf⟩ := h.write.last (by rwa [hperiod]) (by rwa [hperiod])
  exact ⟨⟨h.twin.rxAt hat.toTxAt, h.port, h.kind⟩, h.twin.tFlag.trans hf⟩

/-! ### The calm run, cycle by cycle -/

section

variable (hpres : Presents s (.read d)) (hk : s.timerKind = .contract)
  (hN : s.nalign.toNat ≤ s.period) (hP : 2 ≤ s.period) (hc : Calm (4 + 10 * s.period) s)
  (hlow : ∀ p, s.later.head? = some p → p.rxpLevel = .low)

include hpres hk hN hP hc hlow

/-- A calm run of a READ that finds LOW runs beside the WRITE to its last cycle. -/
theorem run_readBeside (h1 : 1 ≤ m) (hm : m < 4 + 10 * s.period) :
    ∃ u x, run m s = .next u ∧ Calm (4 + 10 * s.period - m) u ∧
      Calm (4 + 10 * s.period - m) x ∧ ReadBeside s m u x ∧
      (m = 1 → u.now.rxpLevel = .low) := by
  induction m, h1 using Nat.le_induction with
  | base =>
    have hc' : Calm (2 + 10 * s.period + 2) s := hc.mono (by omega)
    obtain ⟨hstep, hcu, -⟩ := step_of_presents_read hpres hk hc'
    obtain ⟨x, hcx, hx⟩ := readBeside_one hpres hk hc'
    exact ⟨_, x, run_succ_of_step hstep, hcu.mono (by omega), hcx.mono (by omega), hx,
      fun _ => rxpLevel_after_acceptance hc' hlow⟩
  | succ m h1 ih =>
    obtain ⟨u, x, hrun, hcu, hcx, hu, hread⟩ := ih (by omega)
    obtain ⟨v, y, hstep, hcv, hcy, hv⟩ := hu.step (n := 4 + 10 * s.period - (m + 2)) hN hP (by omega)
      (hcu.mono (by omega)) (hcx.mono (by omega)) hread
    exact ⟨v, y, run_succ_of_run hrun hstep, hcv.mono (by omega), hcy.mono (by omega), hv, by omega⟩

/-- The READ is answered a byte in its last cycle. -/
theorem run_read_answered : ∃ t mid r, run (4 + 10 * s.period) s = .next t ∧
    t.trace = s.trace ++ (.cmd .read :: mid ++ [.rsp (.okByte r)]) ∧ inner mid = true ∧
    t.seq = .idle ∧ t.txLine = s.txLine ∧ t.out.rspStatus = 0b00#2 ∧ t.out.rspData = r := by
  obtain ⟨u, x, hrun, hcu, -, hu, -⟩ := run_readBeside hpres hk hN hP hc hlow
    (m := 3 + 10 * s.period) (by omega) (by omega)
  obtain ⟨hat, hf⟩ := hu.last hP rfl
  obtain ⟨t, hstep, hi, hline, ht, hstatus, hdata⟩ := hat.last_step (n := 0) (hcu.mono (by omega)) hf
  obtain ⟨mid, hmid, hinner, -⟩ := hu.events
  refine ⟨t, mid ++ [.poll .elapsed], u.rxSr, ?_, by simp [ht, hmid], ?_, hi,
    hline.trans hu.txLine, hstatus, hdata⟩
  · rw [show 4 + 10 * s.period = 3 + 10 * s.period + 1 by omega]
    exact run_succ_of_run hrun hstep
  · rw [inner_append, hinner]
    rfl

/-- The level that follows the check and `k` samples is that of the line in the cycle of sample `k`. -/
theorem getElem_levelsRead_of_run {evs : List Event} {i : PortIn}
    (hrun : run (4 + 10 * s.period) s = .next t) (ht : t.trace = s.trace ++ (.cmd .read :: evs))
    (hk8 : k < 8) (hi : (s.now :: s.later)[4 + (k + 1) * s.period]? = some i) :
    (levelsRead evs)[k + 1]? = some i.rxpLevel := by
  have hmul : (k + 1) * s.period ≤ 8 * s.period := Nat.mul_le_mul_right _ (by omega)
  obtain ⟨v, y, hrunV, hcv, -, hv, -⟩ := run_readBeside hpres hk hN hP hc hlow
    (m := 4 + (k + 1) * s.period) (by omega) (by omega)
  have hnow : v.now = i := by
    have hhead := congrArg List.head? hv.inputs
    rw [List.head?_drop, hi] at hhead
    exact Option.some.inj hhead
  obtain ⟨n, hn⟩ : ∃ n, 4 + (k + 1) * s.period + (n + 1) = 4 + 10 * s.period :=
    ⟨10 * s.period - (k + 1) * s.period - 1, by omega⟩
  have hrest : run (n + 1) v = .next t := by rw [← run_add hrunV, hn, hrun]
  rw [← hnow]
  exact hv.getElem_levelsRead (hv.rxAt_sample hP hk8 rfl) (hcv.mono (by omega)) hrest ht

end

/-- Settles O49: the acceptance shows nothing, and then the WRITE beside the READ gives the table. -/
theorem readCycleCounts : Obligations.ReadCycleCounts := by
  intro s d hpres hk hN hP hc hlow m hm
  rcases Nat.eq_zero_or_pos m with rfl | h1
  · obtain ⟨hstep, -⟩ := step_of_presents_read (n := 3 + 10 * s.period) hpres hk (hc.mono (by omega))
    exact ⟨s, _, rfl, hstep, showsReadCycle_zero rfl (by simp [newEvents]) nofun⟩
  · obtain ⟨u, x, hrun, hcu, hcx, hu, hread⟩ := run_readBeside hpres hk hN hP hc hlow h1 hm
    obtain ⟨t, -, -, hstep, -, hshows, -⟩ := hu.exists_rows (n := 0) hN hP hm (hcu.mono (by omega))
      (hcx.mono (by omega)) hread
    exact ⟨u, _, hrun, hstep, by simpa [ShowsReadCycle, State.cmdReady, State.busy] using hshows⟩

/-- Settles O51: the answered byte has the cells that were read, and each is read in its own cycle. -/
theorem readAnswersTheSampledByte : Obligations.ReadAnswersTheSampledByte := by
  intro s d hpres hk hN hP hc hlow
  obtain ⟨t, mid, r, hrun, ht, hinner, hi, hline, hstatus, hdata⟩ :=
    run_read_answered hpres hk hN hP hc hlow
  obtain ⟨-, hlevels⟩ := (Answered.readAnswer ⟨_, t, hrun, ht, hinner⟩).levels
  refine ⟨t, mid, r, hrun, ht, hinner, hi, hline, hstatus, hdata, fun k hk8 i hi => ?_⟩
  have hlevel := getElem_levelsRead_of_run hpres hk hN hP hc hlow
    (evs := mid ++ [Event.rsp (.okByte r)]) hrun ht hk8 hi
  have hall : levelsRead (mid ++ [.rsp (.okByte r)]) = (List.range 9).map (cell r) := by
    rw [levelsRead_append, hlevels]
    rfl
  have hcell : cell r (k + 1) = i.rxpLevel := by
    simpa [hall, show k + 1 < 9 by omega] using hlevel
  rw [← hcell, cell_succ _ hk8, bitOfLevel_levelOfBit]

end Sys2Proof.Machine
end

section
/-!
SUPPORT. The two errors (60_exceptions.md): which step answers which one (R151, R152, R153) and what
taking one leaves behind (R157); and the cycle in which nothing is presented (10_state.md R167).
Settles O7, O24 and O25.
-/

namespace Sys2Proof.Machine

variable {s t : State}

/-! ### Where an error comes from -/

/-- `ERR_BUS` is the answer of a failed drive or a failed read, with the pin's own payload. -/
theorem SeqRow.errBus_mem_iff (h : SeqRow s t) (e : ErrCode) :
    .rsp (.errBus e) ∈ newEvents s t ↔
      ((s.seq = .txStart ∨ s.seq = .txData ∨ s.seq = .txStop) ∧ s.pinSetAnswer = .err e) ∨
      ((s.seq = .rxCheck ∨ s.seq = .rxData) ∧ s.pinGetAnswer = .err e) := by
  cases h with
  | txStartErr _ h ha | txDataErr _ h ha | txStopErr _ h ha | rxCheckErr _ h ha
  | rxDataErr _ h ha => simp [newEvents, h, ha, eq_comm]
  | txStart h ha | txData h ha | txStop h ha | rxCheckHigh h ha | rxCheckLow h ha
  | rxData _ h ha => simp [newEvents, h, ha]
  | notYet h => rcases h with h | h | h | h | h | h <;> simp [newEvents, h]
  | _ h => simp [newEvents, h]

/-- `ERR_INVALID_INTERRUPT` is the answer of the precondition check to a HIGH line alone. -/
theorem SeqRow.errInvalidInterrupt_mem_iff (h : SeqRow s t) :
    .rsp .errInvalidInterrupt ∈ newEvents s t ↔ s.seq = .rxCheck ∧ s.pinGetAnswer = .ok .high := by
  cases h with
  | rxCheckErr _ h ha | rxCheckHigh h ha | rxCheckLow h ha => simp [newEvents, h, ha]
  | notYet h => rcases h with h | h | h | h | h | h <;> simp [newEvents, h]
  | txStartErr _ h | txDataErr _ h | txStopErr _ h | rxData _ h | rxDataErr _ h | _ h =>
    simp [newEvents, h]

/-- The only answer an acceptance gives is FLUSH's `OK_UNIT` (R118). -/
theorem eq_okUnit_of_acceptance {i : Instr} {r : Result} (hi : s.seq = .idle)
    (h : exec i s = .next t) (hr : .rsp r ∈ newEvents s t) : r = .okUnit := by
  obtain ⟨hb, -⟩ | ⟨-, ⟨b, -, rfl⟩ | ⟨d, -, rfl⟩ | ⟨d, -, rfl⟩⟩ := exec_cases h
  · exact absurd hi hb
  · simp [newEvents] at hr
  · simpa [newEvents] using hr
  · simp [newEvents] at hr

/-- Settles O25: the rows of the step tables for the sequencer, the three acceptances for exec. -/
theorem errorSources : Obligations.ErrorSources := by
  refine ⟨fun s t h => ?_, fun i s t hi h => ⟨fun hr => ?_, fun e hr => ?_⟩⟩
  · exact ⟨(seqStep_row h).errBus_mem_iff, (seqStep_row h).errInvalidInterrupt_mem_iff⟩
  · cases eq_okUnit_of_acceptance hi h hr
  · cases eq_okUnit_of_acceptance hi h hr

/-! ### Taking an error -/

/-- A block that has answered is ready for the next command. -/
@[simp] theorem finish_cmdReady (r : Result) (s : State) : (finish r s).cmdReady = true := by
  simp [State.cmdReady, State.busy]

/-- Settles O24: `raise` is `finish`, whose fields for the two errors these are. -/
theorem raiseAnswersAndGoesIdle : Obligations.RaiseAnswersAndGoesIdle := by
  intro s
  refine ⟨fun e => ⟨?_, finish_cmdReady _ s⟩, ?_, finish_cmdReady _ s⟩
  · simp [finish, respond]
  · simp [finish, respond]

/-! ### A cycle in which nothing is presented -/

/-- Settles O7: the step is the sequencer's, clocked, and in `IDLE` its row leaves only the outputs 0. -/
theorem stepWithNothingPresented : Obligations.StepWithNothingPresented := by
  intro s hn hp
  have hstep : step s = clocked (seqStep s) := step_nothing_presented hn hp
  refine ⟨fun u hu => ?_, fun f hf => ?_, fun hi => ?_⟩
  · rw [hstep, hu, clocked_next]
  · rw [hstep, hf, clocked]
  · rw [hstep, seqStep_of_row (.idle hi), clocked_next, quiet]

end Sys2Proof.Machine
end

section
/-!
SUPPORT. Reset while a command runs (70_reset_and_hazards.md R181, R195) and a command presented to a busy
block (R192). Settles O9 and O16.
-/

namespace Sys2Proof.Machine

variable {s t : State}

/-! ### Reset -/

/-- Reset performs no `TimerReset()` (R181), so at a period boundary the timer wraps and sets its flag. -/
theorem clockEdge_resetBlock_of_boundary (hc : s.tCnt = s.period - 1) :
    (clockEdge (resetBlock s)).tCnt = 0 ∧ (clockEdge (resetBlock s)).tFlag = true := by
  rw [clockEdge_tCnt, clockEdge_tFlag, timerCount_of_boundary (s := resetBlock s) rfl hc]
  exact ⟨rfl, rfl⟩

/-- Inside a period a reset cycle is one more cycle counted, and the flag stands. -/
theorem clockEdge_resetBlock_of_count (hc : s.tCnt ≠ s.period - 1) :
    (clockEdge (resetBlock s)).tCnt = s.tCnt + 1 ∧
      (clockEdge (resetBlock s)).tFlag = s.tFlag := by
  rw [clockEdge_tCnt, clockEdge_tFlag, timerCount_of_count (s := resetBlock s) rfl hc]
  exact ⟨rfl, rfl⟩

/-- Settles O9: `resetBlock` writes the block's own registers and outputs, and the clock edge only lets the
timer count and the host hold its word. -/
theorem resetAbortsTheCommand : Obligations.ResetAbortsTheCommand := by
  intro s hn
  have hheld : s.cmdPort ≠ none → (clockEdge (resetBlock s)).cmdPort = s.cmdPort :=
    clockEdge_cmdPort_of_held (s := resetBlock s)
  exact ⟨clockEdge (resetBlock s), step_in_reset hn, rfl, rfl, rfl, rfl, rfl, rfl, rfl, rfl, rfl,
    hheld, clockEdge_resetBlock_of_boundary, clockEdge_resetBlock_of_count⟩

/-! ### A command presented to a busy block -/

theorem cmdReady_eq_false : s.cmdReady = false ↔ s.seq ≠ .idle := by
  simp [State.cmdReady, State.busy]

theorem AcceptsNothing.newEvents_all (h : AcceptsNothing s t) :
    (newEvents s t).all (fun e => !e.isCmd) = true := by
  rw [List.all_eq_true]
  intro e he
  cases e with
  | cmd c => exact absurd he (h.not_mem_newEvents c)
  | _ => rfl

/-- The sequencer never takes the presented word, nor does the host withdraw it (R192). -/
theorem SeqRow.clockEdge_cmdPort_of_held (h : SeqRow s t) (hp : s.cmdPort ≠ none) :
    (clockEdge t).cmdPort = s.cmdPort := by
  obtain ⟨hport, -⟩ := h.outside
  exact (Machine.clockEdge_cmdPort_of_held (hport ▸ hp)).trans hport

/-- Settles O16: the cycle is a row of the running command, which neither takes the word nor adds a `Cmd`. -/
theorem commandWaitsWhileBusy : Obligations.CommandWaitsWhileBusy := by
  intro s w hn hb hp hwf
  have hexec : exec (decode w) s = seqStep s := exec_busy hwf hb
  refine ⟨cmdReady_eq_false.2 hb, hexec, fun t h => ?_⟩
  rw [step_presented hn hp, hexec] at h
  obtain ⟨u, hu, rfl⟩ := clocked_eq_next h
  have hrow := seqStep_row hu
  rw [newEvents_clockEdge, hrow.clockEdge_cmdPort_of_held (by simp [hp])]
  exact ⟨hp, hrow.acceptsNothing.newEvents_all⟩

end Sys2Proof.Machine
end

section
/-!
SUPPORT. What the model answers outside the block's good states and words: the numbers that are no command
word (30_encoding.md R78, R85) and the states without a table row (10_state.md R40); the step with a word
presented (R38), and the invariant right after reset (R39, R40). Settles O4, O6, O21 and O32.
-/

namespace Sys2Proof

/-! ### Numbers that are no command word -/

/-- `notACommandWord` stands for a number that does not fit the 10-bit command port, and for no other. -/
theorem decodeNat_eq_notACommandWord_iff {w : Nat} :
    decodeNat w = .error .notACommandWord ↔ 2 ^ 10 ≤ w := by
  rcases lt_or_ge w (2 ^ 10) with hlt | hge
  · exact iff_of_false (by simp [decodeNat_of_lt hlt]) hlt.not_ge
  · exact iff_of_true (if_neg hge.not_gt) hge

/-- A table row's bits are decoded as the number they spell below `nbits`. -/
theorem decodeTableWord_eq_none_iff {nbits w : Nat} :
    decodeTableWord nbits w = none ↔ decodeNat (w % 2 ^ nbits) = .error .notACommandWord := by
  unfold decodeTableWord
  cases decodeNat (w % 2 ^ nbits) with
  | ok i => simp
  | error e => cases e; simp

/-- Settles O4: the number decoder's rejection, and the table decoder's `none`, which is that rejection. -/
theorem onlyTenBitWordsAreCommands : Obligations.OnlyTenBitWordsAreCommands := fun _ =>
  ⟨decodeNat_eq_notACommandWord_iff, fun _ =>
    decodeTableWord_eq_none_iff.trans decodeNat_eq_notACommandWord_iff⟩

end Sys2Proof

namespace Sys2Proof.Machine

variable {s : State}

/-! ### A cycle in which a word is presented -/

/-- Settles O6: the step is `exec` of the word's instruction, clocked. -/
theorem stepRunsThePresentedInstruction : Obligations.StepRunsThePresentedInstruction := by
  intro s w i hn hp hd
  have hstep : step s = clocked (exec i s) := hd ▸ step_presented hn hp
  refine ⟨fun u hu => ?_, fun f hf => ?_, fun r hr => ?_⟩
  · rw [hstep, hu, clocked_next]
  · rw [hstep, hf, clocked]
  · rw [hstep, hr, clocked]

/-! ### States without a table row -/

/-- No row of R97 counts down from `dly_cnt = 0`. -/
theorem alignStep_of_zero (align waitStart : Seq) (hd : s.dlyCnt = 0#3) :
    alignStep align waitStart s = .fault (.noTableRow align) := if_pos hd

/-- No row of R111 goes on from an elapsed wait after more than eight data cells. -/
theorem txWaitDataStep_of_gt (ha : s.pollAnswer = .elapsed) (hc : 7#4 < s.txCnt) :
    txWaitDataStep s = .fault (.noTableRow .txWaitData) := by
  rw [txWaitDataStep, waitStep_elapsed ha, if_neg (BitVec.lt_asymm hc), if_neg (BitVec.ne_of_lt hc).symm]

/-- No row of R131 goes on from an elapsed wait after more than eight samples. -/
theorem rxWaitDataStep_of_gt (ha : s.pollAnswer = .elapsed) (hc : 7#4 < s.rxCnt) :
    rxWaitDataStep s = .fault (.noTableRow .rxWaitData) := by
  rw [rxWaitDataStep, waitStep_elapsed ha, if_neg (BitVec.lt_asymm hc), if_neg (BitVec.ne_of_lt hc).symm]

/-- Settles O21: each state's own step, which finds no row. -/
theorem statesWithoutATableRowFault : Obligations.StatesWithoutATableRowFault := by
  intro s
  refine ⟨?_, fun hq ha hc => ?_, fun hq ha hc => ?_⟩
  · rintro (hq | hq) hd <;> simp only [seqStep, hq, alignStep_of_zero _ _ hd]
  · simp only [seqStep, hq, txWaitDataStep_of_gt ha hc]
  · simp only [seqStep, hq, rxWaitDataStep_of_gt ha hc]

/-! ### The invariant right after reset -/

/-- The reference timer's count at reset is brought into the range of its period, which is at least 1. -/
theorem reset_tCnt_lt_period : State.reset.tCnt < State.reset.period :=
  Nat.mod_lt _ (Nat.succ_pos _)

/-- Settles O32: `IDLE` asks nothing of the registers, the outputs are quiet, the timer is in range. -/
theorem resetMeetsTheInvariant : Obligations.ResetMeetsTheInvariant :=
  ⟨rfl, outInv_quiet State.reset, reset_tCnt_lt_period⟩

end Sys2Proof.Machine
end
